-- ==== Sys2Proof/Word.lean ====
section
/-! DEFINITION. The word types of the hart and nothing else. XLEN = 32 (00_scope.md R4 P1), 8-bit bytes
(10_state.md R37), 5-bit register specifiers (30_encoding.md R101), 64-bit counters (10_state.md R30 to R32). -/

namespace Sys2Proof

/-- A 32-bit value: the contents of a register, an address, an instruction word. -/
abbrev Word := BitVec 32

/-- One byte of memory. -/
abbrev Byte := BitVec 8

/-- A register specifier; value `n` names register `xn` (30_encoding.md R101). -/
abbrev Reg := BitVec 5

/-- A 64-bit counter value. -/
abbrev Counter := BitVec 64

end Sys2Proof
end

