-- ==== Sys2Proof/Syntax.lean ====
section
/-! DEFINITION. The instructions: one constructor per row of spec/opcode_table.json, in the table's order. The first
55 are executed by this hardware (30_encoding.md R125); the 104 after them are listed only, and every one of them
raises an illegal-instruction exception (30_encoding.md R120, 47_rv64i_listed.md R360, 48_a_listed.md R380,
49_fd_listed.md R410). Every bit the table leaves variable is an operand, so that no bit of a word is dropped. -/

namespace Sys2Proof

/-- An instruction, with its operands as the fields of 30_encoding.md R101 to R117 hold them. -/
inductive Instr where
  /-- LUI, RV32I, R211. U-type: `imm` is inst[31:12]. -/
  | lui (rd : Reg) (imm : BitVec 20)
  /-- AUIPC, RV32I, R212. U-type: `imm` is inst[31:12]. -/
  | auipc (rd : Reg) (imm : BitVec 20)
  /-- JAL, RV32I, R241. J-type: `off` is the 21-bit byte offset, bit 0 always 0. -/
  | jal (rd : Reg) (off : BitVec 21)
  /-- JALR, RV32I, R242. I-type: `imm` is inst[31:20]. -/
  | jalr (rd : Reg) (rs1 : Reg) (imm : BitVec 12)
  /-- BEQ, RV32I, R244. B-type: `off` is the 13-bit byte offset, bit 0 always 0. -/
  | beq (rs1 : Reg) (rs2 : Reg) (off : BitVec 13)
  /-- BNE, RV32I, R245. B-type: `off` is the 13-bit byte offset, bit 0 always 0. -/
  | bne (rs1 : Reg) (rs2 : Reg) (off : BitVec 13)
  /-- BLT, RV32I, R246. B-type: `off` is the 13-bit byte offset, bit 0 always 0. -/
  | blt (rs1 : Reg) (rs2 : Reg) (off : BitVec 13)
  /-- BGE, RV32I, R247. B-type: `off` is the 13-bit byte offset, bit 0 always 0. -/
  | bge (rs1 : Reg) (rs2 : Reg) (off : BitVec 13)
  /-- BLTU, RV32I, R248. B-type: `off` is the 13-bit byte offset, bit 0 always 0. -/
  | bltu (rs1 : Reg) (rs2 : Reg) (off : BitVec 13)
  /-- BGEU, RV32I, R249. B-type: `off` is the 13-bit byte offset, bit 0 always 0. -/
  | bgeu (rs1 : Reg) (rs2 : Reg) (off : BitVec 13)
  /-- LB, RV32I, R261. I-type: `imm` is inst[31:20]. -/
  | lb (rd : Reg) (rs1 : Reg) (imm : BitVec 12)
  /-- LH, RV32I, R262. I-type: `imm` is inst[31:20]. -/
  | lh (rd : Reg) (rs1 : Reg) (imm : BitVec 12)
  /-- LW, RV32I, R263. I-type: `imm` is inst[31:20]. -/
  | lw (rd : Reg) (rs1 : Reg) (imm : BitVec 12)
  /-- LBU, RV32I, R264. I-type: `imm` is inst[31:20]. -/
  | lbu (rd : Reg) (rs1 : Reg) (imm : BitVec 12)
  /-- LHU, RV32I, R265. I-type: `imm` is inst[31:20]. -/
  | lhu (rd : Reg) (rs1 : Reg) (imm : BitVec 12)
  /-- SB, RV32I, R266. S-type: `rs1` is the base, `rs2` the data register. -/
  | sb (rs1 : Reg) (rs2 : Reg) (imm : BitVec 12)
  /-- SH, RV32I, R267. S-type: `rs1` is the base, `rs2` the data register. -/
  | sh (rs1 : Reg) (rs2 : Reg) (imm : BitVec 12)
  /-- SW, RV32I, R268. S-type: `rs1` is the base, `rs2` the data register. -/
  | sw (rs1 : Reg) (rs2 : Reg) (imm : BitVec 12)
  /-- ADDI, RV32I, R202. I-type: `imm` is inst[31:20]. -/
  | addi (rd : Reg) (rs1 : Reg) (imm : BitVec 12)
  /-- SLTI, RV32I, R203. I-type: `imm` is inst[31:20]. -/
  | slti (rd : Reg) (rs1 : Reg) (imm : BitVec 12)
  /-- SLTIU, RV32I, R204. I-type: `imm` is inst[31:20]. -/
  | sltiu (rd : Reg) (rs1 : Reg) (imm : BitVec 12)
  /-- XORI, RV32I, R207. I-type: `imm` is inst[31:20]. -/
  | xori (rd : Reg) (rs1 : Reg) (imm : BitVec 12)
  /-- ORI, RV32I, R206. I-type: `imm` is inst[31:20]. -/
  | ori (rd : Reg) (rs1 : Reg) (imm : BitVec 12)
  /-- ANDI, RV32I, R205. I-type: `imm` is inst[31:20]. -/
  | andi (rd : Reg) (rs1 : Reg) (imm : BitVec 12)
  /-- SLLI, RV32I, R208. Shift-amount form of I-type. -/
  | slli (rd : Reg) (rs1 : Reg) (shamt : BitVec 5)
  /-- SRLI, RV32I, R209. Shift-amount form of I-type. -/
  | srli (rd : Reg) (rs1 : Reg) (shamt : BitVec 5)
  /-- SRAI, RV32I, R210. Shift-amount form of I-type. -/
  | srai (rd : Reg) (rs1 : Reg) (shamt : BitVec 5)
  /-- ADD, RV32I, R213. R-type. -/
  | add (rd : Reg) (rs1 : Reg) (rs2 : Reg)
  /-- SUB, RV32I, R214. R-type. -/
  | sub (rd : Reg) (rs1 : Reg) (rs2 : Reg)
  /-- SLL, RV32I, R220. R-type. -/
  | sll (rd : Reg) (rs1 : Reg) (rs2 : Reg)
  /-- SLT, RV32I, R215. R-type. -/
  | slt (rd : Reg) (rs1 : Reg) (rs2 : Reg)
  /-- SLTU, RV32I, R216. R-type. -/
  | sltu (rd : Reg) (rs1 : Reg) (rs2 : Reg)
  /-- XOR, RV32I, R219. R-type. -/
  | xor (rd : Reg) (rs1 : Reg) (rs2 : Reg)
  /-- SRL, RV32I, R221. R-type. -/
  | srl (rd : Reg) (rs1 : Reg) (rs2 : Reg)
  /-- SRA, RV32I, R222. R-type. -/
  | sra (rd : Reg) (rs1 : Reg) (rs2 : Reg)
  /-- OR, RV32I, R218. R-type. -/
  | or (rd : Reg) (rs1 : Reg) (rs2 : Reg)
  /-- AND, RV32I, R217. R-type. -/
  | and (rd : Reg) (rs1 : Reg) (rs2 : Reg)
  /-- FENCE, RV32I, R280. FENCE form of I-type. -/
  | fence (pred : BitVec 4) (succ : BitVec 4)
  /-- FENCE.I, RV32I, R281. A single word. -/
  | fenceI
  /-- ECALL, RV32I, R320. A single word. -/
  | ecall
  /-- EBREAK, RV32I, R321. A single word. -/
  | ebreak
  /-- CSRRW, RV32I, R291. CSR form of I-type. -/
  | csrrw (rd : Reg) (csr : BitVec 12) (rs1 : Reg)
  /-- CSRRS, RV32I, R292. CSR form of I-type. -/
  | csrrs (rd : Reg) (csr : BitVec 12) (rs1 : Reg)
  /-- CSRRC, RV32I, R293. CSR form of I-type. -/
  | csrrc (rd : Reg) (csr : BitVec 12) (rs1 : Reg)
  /-- CSRRWI, RV32I, R294. CSR form of I-type, `uimm` in the rs1 field. -/
  | csrrwi (rd : Reg) (csr : BitVec 12) (uimm : BitVec 5)
  /-- CSRRSI, RV32I, R295. CSR form of I-type, `uimm` in the rs1 field. -/
  | csrrsi (rd : Reg) (csr : BitVec 12) (uimm : BitVec 5)
  /-- CSRRCI, RV32I, R296. CSR form of I-type, `uimm` in the rs1 field. -/
  | csrrci (rd : Reg) (csr : BitVec 12) (uimm : BitVec 5)
  /-- MUL, RV32M, R331. R-type. -/
  | mul (rd : Reg) (rs1 : Reg) (rs2 : Reg)
  /-- MULH, RV32M, R332. R-type. -/
  | mulh (rd : Reg) (rs1 : Reg) (rs2 : Reg)
  /-- MULHSU, RV32M, R333. R-type. -/
  | mulhsu (rd : Reg) (rs1 : Reg) (rs2 : Reg)
  /-- MULHU, RV32M, R334. R-type. -/
  | mulhu (rd : Reg) (rs1 : Reg) (rs2 : Reg)
  /-- DIV, RV32M, R335. R-type. -/
  | div (rd : Reg) (rs1 : Reg) (rs2 : Reg)
  /-- DIVU, RV32M, R336. R-type. -/
  | divu (rd : Reg) (rs1 : Reg) (rs2 : Reg)
  /-- REM, RV32M, R337. R-type. -/
  | rem (rd : Reg) (rs1 : Reg) (rs2 : Reg)
  /-- REMU, RV32M, R338. R-type. -/
  | remu (rd : Reg) (rs1 : Reg) (rs2 : Reg)
  /-- LWU, RV64I, R361. I-type: `imm` is inst[31:20]. -/
  | lwu (rd : Reg) (rs1 : Reg) (imm : BitVec 12)
  /-- LD, RV64I, R362. I-type: `imm` is inst[31:20]. -/
  | ld (rd : Reg) (rs1 : Reg) (imm : BitVec 12)
  /-- SD, RV64I, R363. S-type: `rs1` is the base, `rs2` the data register. -/
  | sd (rs1 : Reg) (rs2 : Reg) (imm : BitVec 12)
  /-- SLLI of RV64I, RV64I, R364. 6-bit shift-amount form of I-type. -/
  | slliRv64 (rd : Reg) (rs1 : Reg) (shamt : BitVec 6)
  /-- SRLI of RV64I, RV64I, R365. 6-bit shift-amount form of I-type. -/
  | srliRv64 (rd : Reg) (rs1 : Reg) (shamt : BitVec 6)
  /-- SRAI of RV64I, RV64I, R366. 6-bit shift-amount form of I-type. -/
  | sraiRv64 (rd : Reg) (rs1 : Reg) (shamt : BitVec 6)
  /-- ADDIW, RV64I, R367. I-type: `imm` is inst[31:20]. -/
  | addiw (rd : Reg) (rs1 : Reg) (imm : BitVec 12)
  /-- SLLIW, RV64I, R368. Shift-amount form of I-type. -/
  | slliw (rd : Reg) (rs1 : Reg) (shamt : BitVec 5)
  /-- SRLIW, RV64I, R369. Shift-amount form of I-type. -/
  | srliw (rd : Reg) (rs1 : Reg) (shamt : BitVec 5)
  /-- SRAIW, RV64I, R370. Shift-amount form of I-type. -/
  | sraiw (rd : Reg) (rs1 : Reg) (shamt : BitVec 5)
  /-- ADDW, RV64I, R371. R-type. -/
  | addw (rd : Reg) (rs1 : Reg) (rs2 : Reg)
  /-- SUBW, RV64I, R372. R-type. -/
  | subw (rd : Reg) (rs1 : Reg) (rs2 : Reg)
  /-- SLLW, RV64I, R373. R-type. -/
  | sllw (rd : Reg) (rs1 : Reg) (rs2 : Reg)
  /-- SRLW, RV64I, R374. R-type. -/
  | srlw (rd : Reg) (rs1 : Reg) (rs2 : Reg)
  /-- SRAW, RV64I, R375. R-type. -/
  | sraw (rd : Reg) (rs1 : Reg) (rs2 : Reg)
  /-- MULW, RV64M, R341. R-type. -/
  | mulw (rd : Reg) (rs1 : Reg) (rs2 : Reg)
  /-- DIVW, RV64M, R342. R-type. -/
  | divw (rd : Reg) (rs1 : Reg) (rs2 : Reg)
  /-- DIVUW, RV64M, R343. R-type. -/
  | divuw (rd : Reg) (rs1 : Reg) (rs2 : Reg)
  /-- REMW, RV64M, R344. R-type. -/
  | remw (rd : Reg) (rs1 : Reg) (rs2 : Reg)
  /-- REMUW, RV64M, R345. R-type. -/
  | remuw (rd : Reg) (rs1 : Reg) (rs2 : Reg)
  /-- LR.W, RV32A, R381. AMO layout with rs2 = 00000. -/
  | lrW (rd : Reg) (rs1 : Reg) (aq : BitVec 1) (rl : BitVec 1)
  /-- SC.W, RV32A, R382. AMO layout. -/
  | scW (rd : Reg) (rs1 : Reg) (rs2 : Reg) (aq : BitVec 1) (rl : BitVec 1)
  /-- AMOSWAP.W, RV32A, R383. AMO layout. -/
  | amoswapW (rd : Reg) (rs1 : Reg) (rs2 : Reg) (aq : BitVec 1) (rl : BitVec 1)
  /-- AMOADD.W, RV32A, R384. AMO layout. -/
  | amoaddW (rd : Reg) (rs1 : Reg) (rs2 : Reg) (aq : BitVec 1) (rl : BitVec 1)
  /-- AMOXOR.W, RV32A, R385. AMO layout. -/
  | amoxorW (rd : Reg) (rs1 : Reg) (rs2 : Reg) (aq : BitVec 1) (rl : BitVec 1)
  /-- AMOAND.W, RV32A, R386. AMO layout. -/
  | amoandW (rd : Reg) (rs1 : Reg) (rs2 : Reg) (aq : BitVec 1) (rl : BitVec 1)
  /-- AMOOR.W, RV32A, R387. AMO layout. -/
  | amoorW (rd : Reg) (rs1 : Reg) (rs2 : Reg) (aq : BitVec 1) (rl : BitVec 1)
  /-- AMOMIN.W, RV32A, R388. AMO layout. -/
  | amominW (rd : Reg) (rs1 : Reg) (rs2 : Reg) (aq : BitVec 1) (rl : BitVec 1)
  /-- AMOMAX.W, RV32A, R389. AMO layout. -/
  | amomaxW (rd : Reg) (rs1 : Reg) (rs2 : Reg) (aq : BitVec 1) (rl : BitVec 1)
  /-- AMOMINU.W, RV32A, R390. AMO layout. -/
  | amominuW (rd : Reg) (rs1 : Reg) (rs2 : Reg) (aq : BitVec 1) (rl : BitVec 1)
  /-- AMOMAXU.W, RV32A, R391. AMO layout. -/
  | amomaxuW (rd : Reg) (rs1 : Reg) (rs2 : Reg) (aq : BitVec 1) (rl : BitVec 1)
  /-- LR.D, RV64A, R392. AMO layout with rs2 = 00000. -/
  | lrD (rd : Reg) (rs1 : Reg) (aq : BitVec 1) (rl : BitVec 1)
  /-- SC.D, RV64A, R393. AMO layout. -/
  | scD (rd : Reg) (rs1 : Reg) (rs2 : Reg) (aq : BitVec 1) (rl : BitVec 1)
  /-- AMOSWAP.D, RV64A, R394. AMO layout. -/
  | amoswapD (rd : Reg) (rs1 : Reg) (rs2 : Reg) (aq : BitVec 1) (rl : BitVec 1)
  /-- AMOADD.D, RV64A, R395. AMO layout. -/
  | amoaddD (rd : Reg) (rs1 : Reg) (rs2 : Reg) (aq : BitVec 1) (rl : BitVec 1)
  /-- AMOXOR.D, RV64A, R396. AMO layout. -/
  | amoxorD (rd : Reg) (rs1 : Reg) (rs2 : Reg) (aq : BitVec 1) (rl : BitVec 1)
  /-- AMOAND.D, RV64A, R397. AMO layout. -/
  | amoandD (rd : Reg) (rs1 : Reg) (rs2 : Reg) (aq : BitVec 1) (rl : BitVec 1)
  /-- AMOOR.D, RV64A, R398. AMO layout. -/
  | amoorD (rd : Reg) (rs1 : Reg) (rs2 : Reg) (aq : BitVec 1) (rl : BitVec 1)
  /-- AMOMIN.D, RV64A, R399. AMO layout. -/
  | amominD (rd : Reg) (rs1 : Reg) (rs2 : Reg) (aq : BitVec 1) (rl : BitVec 1)
  /-- AMOMAX.D, RV64A, R400. AMO layout. -/
  | amomaxD (rd : Reg) (rs1 : Reg) (rs2 : Reg) (aq : BitVec 1) (rl : BitVec 1)
  /-- AMOMINU.D, RV64A, R401. AMO layout. -/
  | amominuD (rd : Reg) (rs1 : Reg) (rs2 : Reg) (aq : BitVec 1) (rl : BitVec 1)
  /-- AMOMAXU.D, RV64A, R402. AMO layout. -/
  | amomaxuD (rd : Reg) (rs1 : Reg) (rs2 : Reg) (aq : BitVec 1) (rl : BitVec 1)
  /-- FLW, RV32F, R411. I-type: `imm` is inst[31:20]. -/
  | flw (rd : Reg) (rs1 : Reg) (imm : BitVec 12)
  /-- FSW, RV32F, R412. S-type: `rs1` is the base, `rs2` the data register. -/
  | fsw (rs1 : Reg) (rs2 : Reg) (imm : BitVec 12)
  /-- FMADD.S, RV32F, R413. R4-type. -/
  | fmaddS (rd : Reg) (rs1 : Reg) (rs2 : Reg) (rs3 : Reg) (rm : BitVec 3)
  /-- FMSUB.S, RV32F, R414. R4-type. -/
  | fmsubS (rd : Reg) (rs1 : Reg) (rs2 : Reg) (rs3 : Reg) (rm : BitVec 3)
  /-- FNMSUB.S, RV32F, R415. R4-type. -/
  | fnmsubS (rd : Reg) (rs1 : Reg) (rs2 : Reg) (rs3 : Reg) (rm : BitVec 3)
  /-- FNMADD.S, RV32F, R416. R4-type. -/
  | fnmaddS (rd : Reg) (rs1 : Reg) (rs2 : Reg) (rs3 : Reg) (rm : BitVec 3)
  /-- FADD.S, RV32F, R417. R-type with a rounding-mode field. -/
  | faddS (rd : Reg) (rs1 : Reg) (rs2 : Reg) (rm : BitVec 3)
  /-- FSUB.S, RV32F, R418. R-type with a rounding-mode field. -/
  | fsubS (rd : Reg) (rs1 : Reg) (rs2 : Reg) (rm : BitVec 3)
  /-- FMUL.S, RV32F, R419. R-type with a rounding-mode field. -/
  | fmulS (rd : Reg) (rs1 : Reg) (rs2 : Reg) (rm : BitVec 3)
  /-- FDIV.S, RV32F, R420. R-type with a rounding-mode field. -/
  | fdivS (rd : Reg) (rs1 : Reg) (rs2 : Reg) (rm : BitVec 3)
  /-- FSQRT.S, RV32F, R421. R-type with rs2 fixed and a rounding-mode field. -/
  | fsqrtS (rd : Reg) (rs1 : Reg) (rm : BitVec 3)
  /-- FSGNJ.S, RV32F, R422. R-type. -/
  | fsgnjS (rd : Reg) (rs1 : Reg) (rs2 : Reg)
  /-- FSGNJN.S, RV32F, R423. R-type. -/
  | fsgnjnS (rd : Reg) (rs1 : Reg) (rs2 : Reg)
  /-- FSGNJX.S, RV32F, R424. R-type. -/
  | fsgnjxS (rd : Reg) (rs1 : Reg) (rs2 : Reg)
  /-- FMIN.S, RV32F, R425. R-type. -/
  | fminS (rd : Reg) (rs1 : Reg) (rs2 : Reg)
  /-- FMAX.S, RV32F, R426. R-type. -/
  | fmaxS (rd : Reg) (rs1 : Reg) (rs2 : Reg)
  /-- FCVT.W.S, RV32F, R427. R-type with rs2 fixed and a rounding-mode field. -/
  | fcvtWS (rd : Reg) (rs1 : Reg) (rm : BitVec 3)
  /-- FCVT.WU.S, RV32F, R428. R-type with rs2 fixed and a rounding-mode field. -/
  | fcvtWuS (rd : Reg) (rs1 : Reg) (rm : BitVec 3)
  /-- FMV.X.W, RV32F, R429. R-type with rs2 fixed. -/
  | fmvXW (rd : Reg) (rs1 : Reg)
  /-- FEQ.S, RV32F, R430. R-type. -/
  | feqS (rd : Reg) (rs1 : Reg) (rs2 : Reg)
  /-- FLT.S, RV32F, R431. R-type. -/
  | fltS (rd : Reg) (rs1 : Reg) (rs2 : Reg)
  /-- FLE.S, RV32F, R432. R-type. -/
  | fleS (rd : Reg) (rs1 : Reg) (rs2 : Reg)
  /-- FCLASS.S, RV32F, R433. R-type with rs2 fixed. -/
  | fclassS (rd : Reg) (rs1 : Reg)
  /-- FCVT.S.W, RV32F, R434. R-type with rs2 fixed and a rounding-mode field. -/
  | fcvtSW (rd : Reg) (rs1 : Reg) (rm : BitVec 3)
  /-- FCVT.S.WU, RV32F, R435. R-type with rs2 fixed and a rounding-mode field. -/
  | fcvtSWu (rd : Reg) (rs1 : Reg) (rm : BitVec 3)
  /-- FMV.W.X, RV32F, R436. R-type with rs2 fixed. -/
  | fmvWX (rd : Reg) (rs1 : Reg)
  /-- FCVT.L.S, RV64F, R437. R-type with rs2 fixed and a rounding-mode field. -/
  | fcvtLS (rd : Reg) (rs1 : Reg) (rm : BitVec 3)
  /-- FCVT.LU.S, RV64F, R438. R-type with rs2 fixed and a rounding-mode field. -/
  | fcvtLuS (rd : Reg) (rs1 : Reg) (rm : BitVec 3)
  /-- FCVT.S.L, RV64F, R439. R-type with rs2 fixed and a rounding-mode field. -/
  | fcvtSL (rd : Reg) (rs1 : Reg) (rm : BitVec 3)
  /-- FCVT.S.LU, RV64F, R440. R-type with rs2 fixed and a rounding-mode field. -/
  | fcvtSLu (rd : Reg) (rs1 : Reg) (rm : BitVec 3)
  /-- FLD, RV32D, R441. I-type: `imm` is inst[31:20]. -/
  | fld (rd : Reg) (rs1 : Reg) (imm : BitVec 12)
  /-- FSD, RV32D, R442. S-type: `rs1` is the base, `rs2` the data register. -/
  | fsd (rs1 : Reg) (rs2 : Reg) (imm : BitVec 12)
  /-- FMADD.D, RV32D, R443. R4-type. -/
  | fmaddD (rd : Reg) (rs1 : Reg) (rs2 : Reg) (rs3 : Reg) (rm : BitVec 3)
  /-- FMSUB.D, RV32D, R444. R4-type. -/
  | fmsubD (rd : Reg) (rs1 : Reg) (rs2 : Reg) (rs3 : Reg) (rm : BitVec 3)
  /-- FNMSUB.D, RV32D, R445. R4-type. -/
  | fnmsubD (rd : Reg) (rs1 : Reg) (rs2 : Reg) (rs3 : Reg) (rm : BitVec 3)
  /-- FNMADD.D, RV32D, R446. R4-type. -/
  | fnmaddD (rd : Reg) (rs1 : Reg) (rs2 : Reg) (rs3 : Reg) (rm : BitVec 3)
  /-- FADD.D, RV32D, R447. R-type with a rounding-mode field. -/
  | faddD (rd : Reg) (rs1 : Reg) (rs2 : Reg) (rm : BitVec 3)
  /-- FSUB.D, RV32D, R448. R-type with a rounding-mode field. -/
  | fsubD (rd : Reg) (rs1 : Reg) (rs2 : Reg) (rm : BitVec 3)
  /-- FMUL.D, RV32D, R449. R-type with a rounding-mode field. -/
  | fmulD (rd : Reg) (rs1 : Reg) (rs2 : Reg) (rm : BitVec 3)
  /-- FDIV.D, RV32D, R450. R-type with a rounding-mode field. -/
  | fdivD (rd : Reg) (rs1 : Reg) (rs2 : Reg) (rm : BitVec 3)
  /-- FSQRT.D, RV32D, R451. R-type with rs2 fixed and a rounding-mode field. -/
  | fsqrtD (rd : Reg) (rs1 : Reg) (rm : BitVec 3)
  /-- FSGNJ.D, RV32D, R452. R-type. -/
  | fsgnjD (rd : Reg) (rs1 : Reg) (rs2 : Reg)
  /-- FSGNJN.D, RV32D, R453. R-type. -/
  | fsgnjnD (rd : Reg) (rs1 : Reg) (rs2 : Reg)
  /-- FSGNJX.D, RV32D, R454. R-type. -/
  | fsgnjxD (rd : Reg) (rs1 : Reg) (rs2 : Reg)
  /-- FMIN.D, RV32D, R455. R-type. -/
  | fminD (rd : Reg) (rs1 : Reg) (rs2 : Reg)
  /-- FMAX.D, RV32D, R456. R-type. -/
  | fmaxD (rd : Reg) (rs1 : Reg) (rs2 : Reg)
  /-- FCVT.S.D, RV32D, R457. R-type with rs2 fixed and a rounding-mode field. -/
  | fcvtSD (rd : Reg) (rs1 : Reg) (rm : BitVec 3)
  /-- FCVT.D.S, RV32D, R458. R-type with rs2 fixed and a rounding-mode field. -/
  | fcvtDS (rd : Reg) (rs1 : Reg) (rm : BitVec 3)
  /-- FEQ.D, RV32D, R459. R-type. -/
  | feqD (rd : Reg) (rs1 : Reg) (rs2 : Reg)
  /-- FLT.D, RV32D, R460. R-type. -/
  | fltD (rd : Reg) (rs1 : Reg) (rs2 : Reg)
  /-- FLE.D, RV32D, R461. R-type. -/
  | fleD (rd : Reg) (rs1 : Reg) (rs2 : Reg)
  /-- FCLASS.D, RV32D, R462. R-type with rs2 fixed. -/
  | fclassD (rd : Reg) (rs1 : Reg)
  /-- FCVT.W.D, RV32D, R463. R-type with rs2 fixed and a rounding-mode field. -/
  | fcvtWD (rd : Reg) (rs1 : Reg) (rm : BitVec 3)
  /-- FCVT.WU.D, RV32D, R464. R-type with rs2 fixed and a rounding-mode field. -/
  | fcvtWuD (rd : Reg) (rs1 : Reg) (rm : BitVec 3)
  /-- FCVT.D.W, RV32D, R465. R-type with rs2 fixed and a rounding-mode field. -/
  | fcvtDW (rd : Reg) (rs1 : Reg) (rm : BitVec 3)
  /-- FCVT.D.WU, RV32D, R466. R-type with rs2 fixed and a rounding-mode field. -/
  | fcvtDWu (rd : Reg) (rs1 : Reg) (rm : BitVec 3)
  /-- FCVT.L.D, RV64D, R467. R-type with rs2 fixed and a rounding-mode field. -/
  | fcvtLD (rd : Reg) (rs1 : Reg) (rm : BitVec 3)
  /-- FCVT.LU.D, RV64D, R468. R-type with rs2 fixed and a rounding-mode field. -/
  | fcvtLuD (rd : Reg) (rs1 : Reg) (rm : BitVec 3)
  /-- FMV.X.D, RV64D, R469. R-type with rs2 fixed. -/
  | fmvXD (rd : Reg) (rs1 : Reg)
  /-- FCVT.D.L, RV64D, R470. R-type with rs2 fixed and a rounding-mode field. -/
  | fcvtDL (rd : Reg) (rs1 : Reg) (rm : BitVec 3)
  /-- FCVT.D.LU, RV64D, R471. R-type with rs2 fixed and a rounding-mode field. -/
  | fcvtDLu (rd : Reg) (rs1 : Reg) (rm : BitVec 3)
  /-- FMV.D.X, RV64D, R472. R-type with rs2 fixed. -/
  | fmvDX (rd : Reg) (rs1 : Reg)
  deriving DecidableEq, Repr

/-- The mnemonic of an instruction's row in spec/opcode_table.json. -/
def Instr.mnemonic : Instr → String
  | .lui _ _ => "LUI"
  | .auipc _ _ => "AUIPC"
  | .jal _ _ => "JAL"
  | .jalr _ _ _ => "JALR"
  | .beq _ _ _ => "BEQ"
  | .bne _ _ _ => "BNE"
  | .blt _ _ _ => "BLT"
  | .bge _ _ _ => "BGE"
  | .bltu _ _ _ => "BLTU"
  | .bgeu _ _ _ => "BGEU"
  | .lb _ _ _ => "LB"
  | .lh _ _ _ => "LH"
  | .lw _ _ _ => "LW"
  | .lbu _ _ _ => "LBU"
  | .lhu _ _ _ => "LHU"
  | .sb _ _ _ => "SB"
  | .sh _ _ _ => "SH"
  | .sw _ _ _ => "SW"
  | .addi _ _ _ => "ADDI"
  | .slti _ _ _ => "SLTI"
  | .sltiu _ _ _ => "SLTIU"
  | .xori _ _ _ => "XORI"
  | .ori _ _ _ => "ORI"
  | .andi _ _ _ => "ANDI"
  | .slli _ _ _ => "SLLI"
  | .srli _ _ _ => "SRLI"
  | .srai _ _ _ => "SRAI"
  | .add _ _ _ => "ADD"
  | .sub _ _ _ => "SUB"
  | .sll _ _ _ => "SLL"
  | .slt _ _ _ => "SLT"
  | .sltu _ _ _ => "SLTU"
  | .xor _ _ _ => "XOR"
  | .srl _ _ _ => "SRL"
  | .sra _ _ _ => "SRA"
  | .or _ _ _ => "OR"
  | .and _ _ _ => "AND"
  | .fence _ _ => "FENCE"
  | .fenceI => "FENCE.I"
  | .ecall => "ECALL"
  | .ebreak => "EBREAK"
  | .csrrw _ _ _ => "CSRRW"
  | .csrrs _ _ _ => "CSRRS"
  | .csrrc _ _ _ => "CSRRC"
  | .csrrwi _ _ _ => "CSRRWI"
  | .csrrsi _ _ _ => "CSRRSI"
  | .csrrci _ _ _ => "CSRRCI"
  | .mul _ _ _ => "MUL"
  | .mulh _ _ _ => "MULH"
  | .mulhsu _ _ _ => "MULHSU"
  | .mulhu _ _ _ => "MULHU"
  | .div _ _ _ => "DIV"
  | .divu _ _ _ => "DIVU"
  | .rem _ _ _ => "REM"
  | .remu _ _ _ => "REMU"
  | .lwu _ _ _ => "LWU"
  | .ld _ _ _ => "LD"
  | .sd _ _ _ => "SD"
  | .slliRv64 _ _ _ => "SLLI__RV64I"
  | .srliRv64 _ _ _ => "SRLI__RV64I"
  | .sraiRv64 _ _ _ => "SRAI__RV64I"
  | .addiw _ _ _ => "ADDIW"
  | .slliw _ _ _ => "SLLIW"
  | .srliw _ _ _ => "SRLIW"
  | .sraiw _ _ _ => "SRAIW"
  | .addw _ _ _ => "ADDW"
  | .subw _ _ _ => "SUBW"
  | .sllw _ _ _ => "SLLW"
  | .srlw _ _ _ => "SRLW"
  | .sraw _ _ _ => "SRAW"
  | .mulw _ _ _ => "MULW"
  | .divw _ _ _ => "DIVW"
  | .divuw _ _ _ => "DIVUW"
  | .remw _ _ _ => "REMW"
  | .remuw _ _ _ => "REMUW"
  | .lrW _ _ _ _ => "LR.W"
  | .scW _ _ _ _ _ => "SC.W"
  | .amoswapW _ _ _ _ _ => "AMOSWAP.W"
  | .amoaddW _ _ _ _ _ => "AMOADD.W"
  | .amoxorW _ _ _ _ _ => "AMOXOR.W"
  | .amoandW _ _ _ _ _ => "AMOAND.W"
  | .amoorW _ _ _ _ _ => "AMOOR.W"
  | .amominW _ _ _ _ _ => "AMOMIN.W"
  | .amomaxW _ _ _ _ _ => "AMOMAX.W"
  | .amominuW _ _ _ _ _ => "AMOMINU.W"
  | .amomaxuW _ _ _ _ _ => "AMOMAXU.W"
  | .lrD _ _ _ _ => "LR.D"
  | .scD _ _ _ _ _ => "SC.D"
  | .amoswapD _ _ _ _ _ => "AMOSWAP.D"
  | .amoaddD _ _ _ _ _ => "AMOADD.D"
  | .amoxorD _ _ _ _ _ => "AMOXOR.D"
  | .amoandD _ _ _ _ _ => "AMOAND.D"
  | .amoorD _ _ _ _ _ => "AMOOR.D"
  | .amominD _ _ _ _ _ => "AMOMIN.D"
  | .amomaxD _ _ _ _ _ => "AMOMAX.D"
  | .amominuD _ _ _ _ _ => "AMOMINU.D"
  | .amomaxuD _ _ _ _ _ => "AMOMAXU.D"
  | .flw _ _ _ => "FLW"
  | .fsw _ _ _ => "FSW"
  | .fmaddS _ _ _ _ _ => "FMADD.S"
  | .fmsubS _ _ _ _ _ => "FMSUB.S"
  | .fnmsubS _ _ _ _ _ => "FNMSUB.S"
  | .fnmaddS _ _ _ _ _ => "FNMADD.S"
  | .faddS _ _ _ _ => "FADD.S"
  | .fsubS _ _ _ _ => "FSUB.S"
  | .fmulS _ _ _ _ => "FMUL.S"
  | .fdivS _ _ _ _ => "FDIV.S"
  | .fsqrtS _ _ _ => "FSQRT.S"
  | .fsgnjS _ _ _ => "FSGNJ.S"
  | .fsgnjnS _ _ _ => "FSGNJN.S"
  | .fsgnjxS _ _ _ => "FSGNJX.S"
  | .fminS _ _ _ => "FMIN.S"
  | .fmaxS _ _ _ => "FMAX.S"
  | .fcvtWS _ _ _ => "FCVT.W.S"
  | .fcvtWuS _ _ _ => "FCVT.WU.S"
  | .fmvXW _ _ => "FMV.X.W"
  | .feqS _ _ _ => "FEQ.S"
  | .fltS _ _ _ => "FLT.S"
  | .fleS _ _ _ => "FLE.S"
  | .fclassS _ _ => "FCLASS.S"
  | .fcvtSW _ _ _ => "FCVT.S.W"
  | .fcvtSWu _ _ _ => "FCVT.S.WU"
  | .fmvWX _ _ => "FMV.W.X"
  | .fcvtLS _ _ _ => "FCVT.L.S"
  | .fcvtLuS _ _ _ => "FCVT.LU.S"
  | .fcvtSL _ _ _ => "FCVT.S.L"
  | .fcvtSLu _ _ _ => "FCVT.S.LU"
  | .fld _ _ _ => "FLD"
  | .fsd _ _ _ => "FSD"
  | .fmaddD _ _ _ _ _ => "FMADD.D"
  | .fmsubD _ _ _ _ _ => "FMSUB.D"
  | .fnmsubD _ _ _ _ _ => "FNMSUB.D"
  | .fnmaddD _ _ _ _ _ => "FNMADD.D"
  | .faddD _ _ _ _ => "FADD.D"
  | .fsubD _ _ _ _ => "FSUB.D"
  | .fmulD _ _ _ _ => "FMUL.D"
  | .fdivD _ _ _ _ => "FDIV.D"
  | .fsqrtD _ _ _ => "FSQRT.D"
  | .fsgnjD _ _ _ => "FSGNJ.D"
  | .fsgnjnD _ _ _ => "FSGNJN.D"
  | .fsgnjxD _ _ _ => "FSGNJX.D"
  | .fminD _ _ _ => "FMIN.D"
  | .fmaxD _ _ _ => "FMAX.D"
  | .fcvtSD _ _ _ => "FCVT.S.D"
  | .fcvtDS _ _ _ => "FCVT.D.S"
  | .feqD _ _ _ => "FEQ.D"
  | .fltD _ _ _ => "FLT.D"
  | .fleD _ _ _ => "FLE.D"
  | .fclassD _ _ => "FCLASS.D"
  | .fcvtWD _ _ _ => "FCVT.W.D"
  | .fcvtWuD _ _ _ => "FCVT.WU.D"
  | .fcvtDW _ _ _ => "FCVT.D.W"
  | .fcvtDWu _ _ _ => "FCVT.D.WU"
  | .fcvtLD _ _ _ => "FCVT.L.D"
  | .fcvtLuD _ _ _ => "FCVT.LU.D"
  | .fmvXD _ _ => "FMV.X.D"
  | .fcvtDL _ _ _ => "FCVT.D.L"
  | .fcvtDLu _ _ _ => "FCVT.D.LU"
  | .fmvDX _ _ => "FMV.D.X"

end Sys2Proof
end

