-- ==== Sys2Proof/Decode.lean ====
section
/-! DEFINITION. Instruction encoding: the fields of a word, the decoder, the encoder, and the opcode table. The
decoder is total: it answers an instruction, or says by name why there is none. A listed-only word decodes to its own
constructor, so that the machine can name what it rejects (30_encoding.md R119). -/

namespace Sys2Proof

/-! ### Fields of a word (30_encoding.md R101 to R117) -/

/-- inst[6:0]. -/
def opcodeOf (w : Word) : BitVec 7 := w.extractLsb' 0 7
/-- inst[11:7]. -/
def rdOf (w : Word) : Reg := w.extractLsb' 7 5
/-- inst[14:12]; the rounding mode in floating-point rows (R117). -/
def funct3Of (w : Word) : BitVec 3 := w.extractLsb' 12 3
/-- inst[19:15]; `uimm` in the immediate CSR forms (R114). -/
def rs1Of (w : Word) : Reg := w.extractLsb' 15 5
/-- inst[24:20]; the shift amount of the constant shifts (R113). -/
def rs2Of (w : Word) : Reg := w.extractLsb' 20 5
/-- inst[31:25]. -/
def funct7Of (w : Word) : BitVec 7 := w.extractLsb' 25 7
/-- inst[31:26], the fixed bits of the 6-bit shift-amount form (47_rv64i_listed.md R364). -/
def funct6Of (w : Word) : BitVec 6 := w.extractLsb' 26 6
/-- inst[25:20] (47_rv64i_listed.md R364). -/
def shamt6Of (w : Word) : BitVec 6 := w.extractLsb' 20 6
/-- inst[31:27]: funct5 of the AMO layout (R117). -/
def funct5Of (w : Word) : BitVec 5 := w.extractLsb' 27 5
/-- inst[31:27]: rs3 of the R4-type (R117). -/
def rs3Of (w : Word) : Reg := w.extractLsb' 27 5
/-- inst[26:25]: funct2 of the R4-type (R117). -/
def funct2Of (w : Word) : BitVec 2 := w.extractLsb' 25 2
/-- inst[26] (R117). -/
def aqOf (w : Word) : BitVec 1 := w.extractLsb' 26 1
/-- inst[25] (R117). -/
def rlOf (w : Word) : BitVec 1 := w.extractLsb' 25 1
/-- inst[31:20] of the I-type (R103). -/
def immIOf (w : Word) : BitVec 12 := w.extractLsb' 20 12
/-- inst[31:20] of a CSR instruction, its CSR address (R114). -/
def csrOf (w : Word) : BitVec 12 := w.extractLsb' 20 12
/-- inst[31:25] ++ inst[11:7] (R104, R109). -/
def immSOf (w : Word) : BitVec 12 := w.extractLsb' 25 7 ++ w.extractLsb' 7 5
/-- inst[31] ++ inst[7] ++ inst[30:25] ++ inst[11:8] ++ 0 (R105, R110). -/
def offBOf (w : Word) : BitVec 13 :=
  w.extractLsb' 31 1 ++ w.extractLsb' 7 1 ++ w.extractLsb' 25 6 ++ w.extractLsb' 8 4 ++ 0#1
/-- inst[31:12] (R106, R111). -/
def immUOf (w : Word) : BitVec 20 := w.extractLsb' 12 20
/-- inst[31] ++ inst[19:12] ++ inst[20] ++ inst[30:21] ++ 0 (R107, R112). -/
def offJOf (w : Word) : BitVec 21 :=
  w.extractLsb' 31 1 ++ w.extractLsb' 12 8 ++ w.extractLsb' 20 1 ++ w.extractLsb' 21 10 ++ 0#1
/-- inst[31:28] of FENCE (R115). -/
def fenceTopOf (w : Word) : BitVec 4 := w.extractLsb' 28 4
/-- inst[27:24] of FENCE (R115). -/
def predOf (w : Word) : BitVec 4 := w.extractLsb' 24 4
/-- inst[23:20] of FENCE (R115). -/
def succOf (w : Word) : BitVec 4 := w.extractLsb' 20 4

/-! ### The decoder (30_encoding.md R118, R119) -/

/-- Why a word or a list of bytes holds no instruction. -/
inductive DecodeError where
  /-- The word is no instruction of the opcode table: it raises IllegalInstruction (R120, R122). -/
  | illegal
  /-- A FENCE or FENCE.I word with a non-zero reserved field: it has no meaning and is refused (R121). -/
  | reservedFence
  /-- Fewer than four bytes were given. -/
  | truncated
  deriving DecidableEq, Repr

/-- LOAD = 0000011 (42_load_store.md R260); funct3 011 and 110 are LD and LWU of RV64I, 111 is unassigned. -/
def decodeLoad (w : Word) : Except DecodeError Instr :=
  match funct3Of w with
  | 0b000#3 => .ok (.lb (rdOf w) (rs1Of w) (immIOf w))
  | 0b001#3 => .ok (.lh (rdOf w) (rs1Of w) (immIOf w))
  | 0b010#3 => .ok (.lw (rdOf w) (rs1Of w) (immIOf w))
  | 0b100#3 => .ok (.lbu (rdOf w) (rs1Of w) (immIOf w))
  | 0b101#3 => .ok (.lhu (rdOf w) (rs1Of w) (immIOf w))
  | 0b110#3 => .ok (.lwu (rdOf w) (rs1Of w) (immIOf w))
  | 0b011#3 => .ok (.ld (rdOf w) (rs1Of w) (immIOf w))
  | _ => .error .illegal

/-- STORE = 0100011 (42_load_store.md R260); funct3 011 is SD of RV64I, 100 to 111 are unassigned. -/
def decodeStore (w : Word) : Except DecodeError Instr :=
  match funct3Of w with
  | 0b000#3 => .ok (.sb (rs1Of w) (rs2Of w) (immSOf w))
  | 0b001#3 => .ok (.sh (rs1Of w) (rs2Of w) (immSOf w))
  | 0b010#3 => .ok (.sw (rs1Of w) (rs2Of w) (immSOf w))
  | 0b011#3 => .ok (.sd (rs1Of w) (rs2Of w) (immSOf w))
  | _ => .error .illegal

/-- BRANCH = 1100011 (41_control_transfer.md R250); funct3 010 and 011 are unassigned. -/
def decodeBranch (w : Word) : Except DecodeError Instr :=
  match funct3Of w with
  | 0b000#3 => .ok (.beq (rs1Of w) (rs2Of w) (offBOf w))
  | 0b001#3 => .ok (.bne (rs1Of w) (rs2Of w) (offBOf w))
  | 0b100#3 => .ok (.blt (rs1Of w) (rs2Of w) (offBOf w))
  | 0b101#3 => .ok (.bge (rs1Of w) (rs2Of w) (offBOf w))
  | 0b110#3 => .ok (.bltu (rs1Of w) (rs2Of w) (offBOf w))
  | 0b111#3 => .ok (.bgeu (rs1Of w) (rs2Of w) (offBOf w))
  | _ => .error .illegal

/-- JALR = 1100111 (41_control_transfer.md R242); funct3 other than 000 is illegal. -/
def decodeJalr (w : Word) : Except DecodeError Instr :=
  match funct3Of w with
  | 0b000#3 => .ok (.jalr (rdOf w) (rs1Of w) (immIOf w))
  | _ => .error .illegal

/-- SLLI and its RV64I form (30_encoding.md R113, 47_rv64i_listed.md R364). -/
def decodeShiftLeft (w : Word) : Except DecodeError Instr :=
  if funct7Of w = 0b0000000#7 then .ok (.slli (rdOf w) (rs1Of w) (rs2Of w))
  else if funct6Of w = 0b000000#6 then .ok (.slliRv64 (rdOf w) (rs1Of w) (shamt6Of w))
  else .error .illegal

/-- SRLI, SRAI and their RV64I forms (30_encoding.md R113, 47_rv64i_listed.md R365, R366). -/
def decodeShiftRight (w : Word) : Except DecodeError Instr :=
  if funct7Of w = 0b0000000#7 then .ok (.srli (rdOf w) (rs1Of w) (rs2Of w))
  else if funct7Of w = 0b0100000#7 then .ok (.srai (rdOf w) (rs1Of w) (rs2Of w))
  else if funct6Of w = 0b000000#6 then .ok (.srliRv64 (rdOf w) (rs1Of w) (shamt6Of w))
  else if funct6Of w = 0b010000#6 then .ok (.sraiRv64 (rdOf w) (rs1Of w) (shamt6Of w))
  else .error .illegal

/-- OP-IMM = 0010011 (40_integer_computational.md, section 2). -/
def decodeOpImm (w : Word) : Except DecodeError Instr :=
  match funct3Of w with
  | 0b000#3 => .ok (.addi (rdOf w) (rs1Of w) (immIOf w))
  | 0b010#3 => .ok (.slti (rdOf w) (rs1Of w) (immIOf w))
  | 0b011#3 => .ok (.sltiu (rdOf w) (rs1Of w) (immIOf w))
  | 0b100#3 => .ok (.xori (rdOf w) (rs1Of w) (immIOf w))
  | 0b110#3 => .ok (.ori (rdOf w) (rs1Of w) (immIOf w))
  | 0b111#3 => .ok (.andi (rdOf w) (rs1Of w) (immIOf w))
  | 0b001#3 => decodeShiftLeft w
  | _ => decodeShiftRight w

/-- OP = 0110011: the register-register instructions and RV32M (40_integer_computational.md, 46_m_extension.md R330). -/
def decodeOp (w : Word) : Except DecodeError Instr :=
  match funct7Of w, funct3Of w with
  | 0b0000000#7, 0b000#3 => .ok (.add (rdOf w) (rs1Of w) (rs2Of w))
  | 0b0100000#7, 0b000#3 => .ok (.sub (rdOf w) (rs1Of w) (rs2Of w))
  | 0b0000000#7, 0b001#3 => .ok (.sll (rdOf w) (rs1Of w) (rs2Of w))
  | 0b0000000#7, 0b010#3 => .ok (.slt (rdOf w) (rs1Of w) (rs2Of w))
  | 0b0000000#7, 0b011#3 => .ok (.sltu (rdOf w) (rs1Of w) (rs2Of w))
  | 0b0000000#7, 0b100#3 => .ok (.xor (rdOf w) (rs1Of w) (rs2Of w))
  | 0b0000000#7, 0b101#3 => .ok (.srl (rdOf w) (rs1Of w) (rs2Of w))
  | 0b0100000#7, 0b101#3 => .ok (.sra (rdOf w) (rs1Of w) (rs2Of w))
  | 0b0000000#7, 0b110#3 => .ok (.or (rdOf w) (rs1Of w) (rs2Of w))
  | 0b0000000#7, 0b111#3 => .ok (.and (rdOf w) (rs1Of w) (rs2Of w))
  | 0b0000001#7, 0b000#3 => .ok (.mul (rdOf w) (rs1Of w) (rs2Of w))
  | 0b0000001#7, 0b001#3 => .ok (.mulh (rdOf w) (rs1Of w) (rs2Of w))
  | 0b0000001#7, 0b010#3 => .ok (.mulhsu (rdOf w) (rs1Of w) (rs2Of w))
  | 0b0000001#7, 0b011#3 => .ok (.mulhu (rdOf w) (rs1Of w) (rs2Of w))
  | 0b0000001#7, 0b100#3 => .ok (.div (rdOf w) (rs1Of w) (rs2Of w))
  | 0b0000001#7, 0b101#3 => .ok (.divu (rdOf w) (rs1Of w) (rs2Of w))
  | 0b0000001#7, 0b110#3 => .ok (.rem (rdOf w) (rs1Of w) (rs2Of w))
  | 0b0000001#7, 0b111#3 => .ok (.remu (rdOf w) (rs1Of w) (rs2Of w))
  | _, _ => .error .illegal

/-- MISC-MEM = 0001111: FENCE, FENCE.I and their reserved variants (30_encoding.md R115, R119 clause 4, R121). -/
def decodeMiscMem (w : Word) : Except DecodeError Instr :=
  match funct3Of w with
  | 0b000#3 =>
    if fenceTopOf w = 0b0000#4 ∧ rs1Of w = 0b00000#5 ∧ rdOf w = 0b00000#5 then .ok (.fence (predOf w) (succOf w))
    else .error .reservedFence
  | 0b001#3 =>
    if immIOf w = 0b000000000000#12 ∧ rs1Of w = 0b00000#5 ∧ rdOf w = 0b00000#5 then .ok .fenceI
    else .error .reservedFence
  | _ => .error .illegal

/-- The funct12 form: the exact ECALL and EBREAK words only (30_encoding.md R116, 45_environment.md R323). -/
def decodePriv (w : Word) : Except DecodeError Instr :=
  if immIOf w = 0b000000000000#12 ∧ rs1Of w = 0b00000#5 ∧ rdOf w = 0b00000#5 then .ok .ecall
  else if immIOf w = 0b000000000001#12 ∧ rs1Of w = 0b00000#5 ∧ rdOf w = 0b00000#5 then .ok .ebreak
  else .error .illegal

/-- SYSTEM = 1110011 (44_csr_counters.md R290, 45_environment.md); funct3 100 is unassigned. -/
def decodeSystem (w : Word) : Except DecodeError Instr :=
  match funct3Of w with
  | 0b000#3 => decodePriv w
  | 0b001#3 => .ok (.csrrw (rdOf w) (csrOf w) (rs1Of w))
  | 0b010#3 => .ok (.csrrs (rdOf w) (csrOf w) (rs1Of w))
  | 0b011#3 => .ok (.csrrc (rdOf w) (csrOf w) (rs1Of w))
  | 0b101#3 => .ok (.csrrwi (rdOf w) (csrOf w) (rs1Of w))
  | 0b110#3 => .ok (.csrrsi (rdOf w) (csrOf w) (rs1Of w))
  | 0b111#3 => .ok (.csrrci (rdOf w) (csrOf w) (rs1Of w))
  | _ => .error .illegal

/-- OP-IMM-32 = 0011011, RV64I only (47_rv64i_listed.md R367 to R370). -/
def decodeOpImm32 (w : Word) : Except DecodeError Instr :=
  match funct3Of w with
  | 0b000#3 => .ok (.addiw (rdOf w) (rs1Of w) (immIOf w))
  | 0b001#3 =>
    if funct7Of w = 0b0000000#7 then .ok (.slliw (rdOf w) (rs1Of w) (rs2Of w)) else .error .illegal
  | 0b101#3 =>
    if funct7Of w = 0b0000000#7 then .ok (.srliw (rdOf w) (rs1Of w) (rs2Of w))
    else if funct7Of w = 0b0100000#7 then .ok (.sraiw (rdOf w) (rs1Of w) (rs2Of w))
    else .error .illegal
  | _ => .error .illegal

/-- OP-32 = 0111011, RV64I and RV64M only (47_rv64i_listed.md R371 to R375, 46_m_extension.md R341 to R345). -/
def decodeOp32 (w : Word) : Except DecodeError Instr :=
  match funct7Of w, funct3Of w with
  | 0b0000000#7, 0b000#3 => .ok (.addw (rdOf w) (rs1Of w) (rs2Of w))
  | 0b0100000#7, 0b000#3 => .ok (.subw (rdOf w) (rs1Of w) (rs2Of w))
  | 0b0000000#7, 0b001#3 => .ok (.sllw (rdOf w) (rs1Of w) (rs2Of w))
  | 0b0000000#7, 0b101#3 => .ok (.srlw (rdOf w) (rs1Of w) (rs2Of w))
  | 0b0100000#7, 0b101#3 => .ok (.sraw (rdOf w) (rs1Of w) (rs2Of w))
  | 0b0000001#7, 0b000#3 => .ok (.mulw (rdOf w) (rs1Of w) (rs2Of w))
  | 0b0000001#7, 0b100#3 => .ok (.divw (rdOf w) (rs1Of w) (rs2Of w))
  | 0b0000001#7, 0b101#3 => .ok (.divuw (rdOf w) (rs1Of w) (rs2Of w))
  | 0b0000001#7, 0b110#3 => .ok (.remw (rdOf w) (rs1Of w) (rs2Of w))
  | 0b0000001#7, 0b111#3 => .ok (.remuw (rdOf w) (rs1Of w) (rs2Of w))
  | _, _ => .error .illegal

/-- AMO = 0101111 (48_a_listed.md R380). -/
def decodeAmo (w : Word) : Except DecodeError Instr :=
  match funct5Of w, funct3Of w with
  | 0b00010#5, 0b010#3 =>
    if rs2Of w = 0b00000#5 then .ok (.lrW (rdOf w) (rs1Of w) (aqOf w) (rlOf w)) else .error .illegal
  | 0b00011#5, 0b010#3 => .ok (.scW (rdOf w) (rs1Of w) (rs2Of w) (aqOf w) (rlOf w))
  | 0b00001#5, 0b010#3 => .ok (.amoswapW (rdOf w) (rs1Of w) (rs2Of w) (aqOf w) (rlOf w))
  | 0b00000#5, 0b010#3 => .ok (.amoaddW (rdOf w) (rs1Of w) (rs2Of w) (aqOf w) (rlOf w))
  | 0b00100#5, 0b010#3 => .ok (.amoxorW (rdOf w) (rs1Of w) (rs2Of w) (aqOf w) (rlOf w))
  | 0b01100#5, 0b010#3 => .ok (.amoandW (rdOf w) (rs1Of w) (rs2Of w) (aqOf w) (rlOf w))
  | 0b01000#5, 0b010#3 => .ok (.amoorW (rdOf w) (rs1Of w) (rs2Of w) (aqOf w) (rlOf w))
  | 0b10000#5, 0b010#3 => .ok (.amominW (rdOf w) (rs1Of w) (rs2Of w) (aqOf w) (rlOf w))
  | 0b10100#5, 0b010#3 => .ok (.amomaxW (rdOf w) (rs1Of w) (rs2Of w) (aqOf w) (rlOf w))
  | 0b11000#5, 0b010#3 => .ok (.amominuW (rdOf w) (rs1Of w) (rs2Of w) (aqOf w) (rlOf w))
  | 0b11100#5, 0b010#3 => .ok (.amomaxuW (rdOf w) (rs1Of w) (rs2Of w) (aqOf w) (rlOf w))
  | 0b00010#5, 0b011#3 =>
    if rs2Of w = 0b00000#5 then .ok (.lrD (rdOf w) (rs1Of w) (aqOf w) (rlOf w)) else .error .illegal
  | 0b00011#5, 0b011#3 => .ok (.scD (rdOf w) (rs1Of w) (rs2Of w) (aqOf w) (rlOf w))
  | 0b00001#5, 0b011#3 => .ok (.amoswapD (rdOf w) (rs1Of w) (rs2Of w) (aqOf w) (rlOf w))
  | 0b00000#5, 0b011#3 => .ok (.amoaddD (rdOf w) (rs1Of w) (rs2Of w) (aqOf w) (rlOf w))
  | 0b00100#5, 0b011#3 => .ok (.amoxorD (rdOf w) (rs1Of w) (rs2Of w) (aqOf w) (rlOf w))
  | 0b01100#5, 0b011#3 => .ok (.amoandD (rdOf w) (rs1Of w) (rs2Of w) (aqOf w) (rlOf w))
  | 0b01000#5, 0b011#3 => .ok (.amoorD (rdOf w) (rs1Of w) (rs2Of w) (aqOf w) (rlOf w))
  | 0b10000#5, 0b011#3 => .ok (.amominD (rdOf w) (rs1Of w) (rs2Of w) (aqOf w) (rlOf w))
  | 0b10100#5, 0b011#3 => .ok (.amomaxD (rdOf w) (rs1Of w) (rs2Of w) (aqOf w) (rlOf w))
  | 0b11000#5, 0b011#3 => .ok (.amominuD (rdOf w) (rs1Of w) (rs2Of w) (aqOf w) (rlOf w))
  | 0b11100#5, 0b011#3 => .ok (.amomaxuD (rdOf w) (rs1Of w) (rs2Of w) (aqOf w) (rlOf w))
  | _, _ => .error .illegal

/-- LOAD-FP = 0000111 (49_fd_listed.md R411, R441). -/
def decodeLoadFp (w : Word) : Except DecodeError Instr :=
  match funct3Of w with
  | 0b010#3 => .ok (.flw (rdOf w) (rs1Of w) (immIOf w))
  | 0b011#3 => .ok (.fld (rdOf w) (rs1Of w) (immIOf w))
  | _ => .error .illegal

/-- STORE-FP = 0100111 (49_fd_listed.md R412, R442). -/
def decodeStoreFp (w : Word) : Except DecodeError Instr :=
  match funct3Of w with
  | 0b010#3 => .ok (.fsw (rs1Of w) (rs2Of w) (immSOf w))
  | 0b011#3 => .ok (.fsd (rs1Of w) (rs2Of w) (immSOf w))
  | _ => .error .illegal

/-- MADD = 1000011, R4-type (30_encoding.md R117). -/
def decodeMadd (w : Word) : Except DecodeError Instr :=
  match funct2Of w with
  | 0b00#2 => .ok (.fmaddS (rdOf w) (rs1Of w) (rs2Of w) (rs3Of w) (funct3Of w))
  | 0b01#2 => .ok (.fmaddD (rdOf w) (rs1Of w) (rs2Of w) (rs3Of w) (funct3Of w))
  | _ => .error .illegal

/-- MSUB = 1000111, R4-type (30_encoding.md R117). -/
def decodeMsub (w : Word) : Except DecodeError Instr :=
  match funct2Of w with
  | 0b00#2 => .ok (.fmsubS (rdOf w) (rs1Of w) (rs2Of w) (rs3Of w) (funct3Of w))
  | 0b01#2 => .ok (.fmsubD (rdOf w) (rs1Of w) (rs2Of w) (rs3Of w) (funct3Of w))
  | _ => .error .illegal

/-- NMSUB = 1001011, R4-type (30_encoding.md R117). -/
def decodeNmsub (w : Word) : Except DecodeError Instr :=
  match funct2Of w with
  | 0b00#2 => .ok (.fnmsubS (rdOf w) (rs1Of w) (rs2Of w) (rs3Of w) (funct3Of w))
  | 0b01#2 => .ok (.fnmsubD (rdOf w) (rs1Of w) (rs2Of w) (rs3Of w) (funct3Of w))
  | _ => .error .illegal

/-- NMADD = 1001111, R4-type (30_encoding.md R117). -/
def decodeNmadd (w : Word) : Except DecodeError Instr :=
  match funct2Of w with
  | 0b00#2 => .ok (.fnmaddS (rdOf w) (rs1Of w) (rs2Of w) (rs3Of w) (funct3Of w))
  | 0b01#2 => .ok (.fnmaddD (rdOf w) (rs1Of w) (rs2Of w) (rs3Of w) (funct3Of w))
  | _ => .error .illegal

/-- OP-FP = 1010011 (49_fd_listed.md R410): funct7, and where a row fixes them the rs2 field and funct3, select. -/
def decodeOpFp (w : Word) : Except DecodeError Instr :=
  match funct7Of w with
  | 0b0000000#7 => .ok (.faddS (rdOf w) (rs1Of w) (rs2Of w) (funct3Of w))
  | 0b0000100#7 => .ok (.fsubS (rdOf w) (rs1Of w) (rs2Of w) (funct3Of w))
  | 0b0001000#7 => .ok (.fmulS (rdOf w) (rs1Of w) (rs2Of w) (funct3Of w))
  | 0b0001100#7 => .ok (.fdivS (rdOf w) (rs1Of w) (rs2Of w) (funct3Of w))
  | 0b0101100#7 =>
    match rs2Of w with
    | 0b00000#5 => .ok (.fsqrtS (rdOf w) (rs1Of w) (funct3Of w))
    | _ => .error .illegal
  | 0b0010000#7 =>
    match funct3Of w with
    | 0b000#3 => .ok (.fsgnjS (rdOf w) (rs1Of w) (rs2Of w))
    | 0b001#3 => .ok (.fsgnjnS (rdOf w) (rs1Of w) (rs2Of w))
    | 0b010#3 => .ok (.fsgnjxS (rdOf w) (rs1Of w) (rs2Of w))
    | _ => .error .illegal
  | 0b0010100#7 =>
    match funct3Of w with
    | 0b000#3 => .ok (.fminS (rdOf w) (rs1Of w) (rs2Of w))
    | 0b001#3 => .ok (.fmaxS (rdOf w) (rs1Of w) (rs2Of w))
    | _ => .error .illegal
  | 0b1100000#7 =>
    match rs2Of w with
    | 0b00000#5 => .ok (.fcvtWS (rdOf w) (rs1Of w) (funct3Of w))
    | 0b00001#5 => .ok (.fcvtWuS (rdOf w) (rs1Of w) (funct3Of w))
    | 0b00010#5 => .ok (.fcvtLS (rdOf w) (rs1Of w) (funct3Of w))
    | 0b00011#5 => .ok (.fcvtLuS (rdOf w) (rs1Of w) (funct3Of w))
    | _ => .error .illegal
  | 0b1110000#7 =>
    match rs2Of w, funct3Of w with
    | 0b00000#5, 0b000#3 => .ok (.fmvXW (rdOf w) (rs1Of w))
    | 0b00000#5, 0b001#3 => .ok (.fclassS (rdOf w) (rs1Of w))
    | _, _ => .error .illegal
  | 0b1010000#7 =>
    match funct3Of w with
    | 0b010#3 => .ok (.feqS (rdOf w) (rs1Of w) (rs2Of w))
    | 0b001#3 => .ok (.fltS (rdOf w) (rs1Of w) (rs2Of w))
    | 0b000#3 => .ok (.fleS (rdOf w) (rs1Of w) (rs2Of w))
    | _ => .error .illegal
  | 0b1101000#7 =>
    match rs2Of w with
    | 0b00000#5 => .ok (.fcvtSW (rdOf w) (rs1Of w) (funct3Of w))
    | 0b00001#5 => .ok (.fcvtSWu (rdOf w) (rs1Of w) (funct3Of w))
    | 0b00010#5 => .ok (.fcvtSL (rdOf w) (rs1Of w) (funct3Of w))
    | 0b00011#5 => .ok (.fcvtSLu (rdOf w) (rs1Of w) (funct3Of w))
    | _ => .error .illegal
  | 0b1111000#7 =>
    match rs2Of w, funct3Of w with
    | 0b00000#5, 0b000#3 => .ok (.fmvWX (rdOf w) (rs1Of w))
    | _, _ => .error .illegal
  | 0b0000001#7 => .ok (.faddD (rdOf w) (rs1Of w) (rs2Of w) (funct3Of w))
  | 0b0000101#7 => .ok (.fsubD (rdOf w) (rs1Of w) (rs2Of w) (funct3Of w))
  | 0b0001001#7 => .ok (.fmulD (rdOf w) (rs1Of w) (rs2Of w) (funct3Of w))
  | 0b0001101#7 => .ok (.fdivD (rdOf w) (rs1Of w) (rs2Of w) (funct3Of w))
  | 0b0101101#7 =>
    match rs2Of w with
    | 0b00000#5 => .ok (.fsqrtD (rdOf w) (rs1Of w) (funct3Of w))
    | _ => .error .illegal
  | 0b0010001#7 =>
    match funct3Of w with
    | 0b000#3 => .ok (.fsgnjD (rdOf w) (rs1Of w) (rs2Of w))
    | 0b001#3 => .ok (.fsgnjnD (rdOf w) (rs1Of w) (rs2Of w))
    | 0b010#3 => .ok (.fsgnjxD (rdOf w) (rs1Of w) (rs2Of w))
    | _ => .error .illegal
  | 0b0010101#7 =>
    match funct3Of w with
    | 0b000#3 => .ok (.fminD (rdOf w) (rs1Of w) (rs2Of w))
    | 0b001#3 => .ok (.fmaxD (rdOf w) (rs1Of w) (rs2Of w))
    | _ => .error .illegal
  | 0b0100000#7 =>
    match rs2Of w with
    | 0b00001#5 => .ok (.fcvtSD (rdOf w) (rs1Of w) (funct3Of w))
    | _ => .error .illegal
  | 0b0100001#7 =>
    match rs2Of w with
    | 0b00000#5 => .ok (.fcvtDS (rdOf w) (rs1Of w) (funct3Of w))
    | _ => .error .illegal
  | 0b1010001#7 =>
    match funct3Of w with
    | 0b010#3 => .ok (.feqD (rdOf w) (rs1Of w) (rs2Of w))
    | 0b001#3 => .ok (.fltD (rdOf w) (rs1Of w) (rs2Of w))
    | 0b000#3 => .ok (.fleD (rdOf w) (rs1Of w) (rs2Of w))
    | _ => .error .illegal
  | 0b1110001#7 =>
    match rs2Of w, funct3Of w with
    | 0b00000#5, 0b001#3 => .ok (.fclassD (rdOf w) (rs1Of w))
    | 0b00000#5, 0b000#3 => .ok (.fmvXD (rdOf w) (rs1Of w))
    | _, _ => .error .illegal
  | 0b1100001#7 =>
    match rs2Of w with
    | 0b00000#5 => .ok (.fcvtWD (rdOf w) (rs1Of w) (funct3Of w))
    | 0b00001#5 => .ok (.fcvtWuD (rdOf w) (rs1Of w) (funct3Of w))
    | 0b00010#5 => .ok (.fcvtLD (rdOf w) (rs1Of w) (funct3Of w))
    | 0b00011#5 => .ok (.fcvtLuD (rdOf w) (rs1Of w) (funct3Of w))
    | _ => .error .illegal
  | 0b1101001#7 =>
    match rs2Of w with
    | 0b00000#5 => .ok (.fcvtDW (rdOf w) (rs1Of w) (funct3Of w))
    | 0b00001#5 => .ok (.fcvtDWu (rdOf w) (rs1Of w) (funct3Of w))
    | 0b00010#5 => .ok (.fcvtDL (rdOf w) (rs1Of w) (funct3Of w))
    | 0b00011#5 => .ok (.fcvtDLu (rdOf w) (rs1Of w) (funct3Of w))
    | _ => .error .illegal
  | 0b1111001#7 =>
    match rs2Of w, funct3Of w with
    | 0b00000#5, 0b000#3 => .ok (.fmvDX (rdOf w) (rs1Of w))
    | _, _ => .error .illegal
  | _ => .error .illegal

/-- The major opcode map (30_encoding.md R118). Every other value of inst[6:0] is illegal: the reserved and the
custom opcodes, and all words with inst[1:0] != 11 or inst[4:2] = 111 (R119, R120, R122). -/
def decode (w : Word) : Except DecodeError Instr :=
  match opcodeOf w with
  | 0b0110111#7 => .ok (.lui (rdOf w) (immUOf w))
  | 0b0010111#7 => .ok (.auipc (rdOf w) (immUOf w))
  | 0b1101111#7 => .ok (.jal (rdOf w) (offJOf w))
  | 0b1100111#7 => decodeJalr w
  | 0b1100011#7 => decodeBranch w
  | 0b0000011#7 => decodeLoad w
  | 0b0100011#7 => decodeStore w
  | 0b0010011#7 => decodeOpImm w
  | 0b0110011#7 => decodeOp w
  | 0b0001111#7 => decodeMiscMem w
  | 0b1110011#7 => decodeSystem w
  | 0b0011011#7 => decodeOpImm32 w
  | 0b0111011#7 => decodeOp32 w
  | 0b0101111#7 => decodeAmo w
  | 0b0000111#7 => decodeLoadFp w
  | 0b0100111#7 => decodeStoreFp w
  | 0b1000011#7 => decodeMadd w
  | 0b1000111#7 => decodeMsub w
  | 0b1001011#7 => decodeNmsub w
  | 0b1001111#7 => decodeNmadd w
  | 0b1010011#7 => decodeOpFp w
  | _ => .error .illegal

/-- The word of four bytes, the first at the lowest address: little-endian (20_memory.md R62). -/
def wordOfBytes (b0 b1 b2 b3 : Byte) : Word := b3 ++ b2 ++ b1 ++ b0

/-- Decode the first instruction of a list of bytes; answer it with the bytes that follow it. -/
def decodeBytes : List Byte → Except DecodeError (Instr × List Byte)
  | b0 :: b1 :: b2 :: b3 :: rest =>
    match decode (wordOfBytes b0 b1 b2 b3) with
    | .ok i => .ok (i, rest)
    | .error e => .error e
  | _ => .error .truncated

/-- The bytes of a word in memory order, least significant first (20_memory.md R61). -/
def wordBytes (w : Word) : List Byte :=
  [w.extractLsb' 0 8, w.extractLsb' 8 8, w.extractLsb' 16 8, w.extractLsb' 24 8]

/-- The instruction the decoder reads from an instruction whose bits are `w`, of which `nbits` are given and the
rest are 0. -/
def decodeTableWord (nbits w : Nat) : Option Instr :=
  match decodeBytes (wordBytes (BitVec.ofNat 32 (w % 2 ^ nbits))) with
  | .ok (i, _) => some i
  | .error _ => none

/-! ### The encoder (30_encoding.md R102 to R117) -/

/-- R-type (R102), and the 5-bit shift-amount form (R113) with the amount in the rs2 field. -/
def encR (f7 : BitVec 7) (rs2 rs1 : BitVec 5) (f3 : BitVec 3) (rd : Reg) (op : BitVec 7) : Word :=
  f7 ++ rs2 ++ rs1 ++ f3 ++ rd ++ op
/-- I-type (R103) and its CSR (R114) and funct12 (R116) forms. -/
def encI (imm : BitVec 12) (rs1 : BitVec 5) (f3 : BitVec 3) (rd : Reg) (op : BitVec 7) : Word :=
  imm ++ rs1 ++ f3 ++ rd ++ op
/-- S-type (R104). -/
def encS (imm : BitVec 12) (rs2 rs1 : Reg) (f3 : BitVec 3) (op : BitVec 7) : Word :=
  imm.extractLsb' 5 7 ++ rs2 ++ rs1 ++ f3 ++ imm.extractLsb' 0 5 ++ op
/-- B-type (R105). Bit 0 of the offset has no place in the word. -/
def encB (off : BitVec 13) (rs2 rs1 : Reg) (f3 : BitVec 3) (op : BitVec 7) : Word :=
  off.extractLsb' 12 1 ++ off.extractLsb' 5 6 ++ rs2 ++ rs1 ++ f3 ++ off.extractLsb' 1 4 ++ off.extractLsb' 11 1 ++ op
/-- U-type (R106). -/
def encU (imm : BitVec 20) (rd : Reg) (op : BitVec 7) : Word := imm ++ rd ++ op
/-- J-type (R107). Bit 0 of the offset has no place in the word. -/
def encJ (off : BitVec 21) (rd : Reg) (op : BitVec 7) : Word :=
  off.extractLsb' 20 1 ++ off.extractLsb' 1 10 ++ off.extractLsb' 11 1 ++ off.extractLsb' 12 8 ++ rd ++ op
/-- The 6-bit shift-amount form of RV64I (47_rv64i_listed.md R364). -/
def encShift6 (f6 shamt : BitVec 6) (rs1 : Reg) (f3 : BitVec 3) (rd : Reg) (op : BitVec 7) : Word :=
  f6 ++ shamt ++ rs1 ++ f3 ++ rd ++ op
/-- The FENCE form (R115). -/
def encFence (pred succ : BitVec 4) : Word :=
  0b0000#4 ++ pred ++ succ ++ 0b00000#5 ++ 0b000#3 ++ 0b00000#5 ++ 0b0001111#7
/-- The AMO layout (R117). -/
def encAmo (f5 : BitVec 5) (aq rl : BitVec 1) (rs2 rs1 : Reg) (f3 : BitVec 3) (rd : Reg) (op : BitVec 7) : Word :=
  f5 ++ aq ++ rl ++ rs2 ++ rs1 ++ f3 ++ rd ++ op
/-- R4-type (R117). -/
def encR4 (rs3 : Reg) (f2 : BitVec 2) (rs2 rs1 : Reg) (rm : BitVec 3) (rd : Reg) (op : BitVec 7) : Word :=
  rs3 ++ f2 ++ rs2 ++ rs1 ++ rm ++ rd ++ op

/-- The word of an instruction, from the encodings of the opcode table. -/
def encode : Instr → Word
  | .lui rd imm => encU imm rd 0b0110111#7
  | .auipc rd imm => encU imm rd 0b0010111#7
  | .jal rd off => encJ off rd 0b1101111#7
  | .jalr rd rs1 imm => encI imm rs1 0b000#3 rd 0b1100111#7
  | .beq rs1 rs2 off => encB off rs2 rs1 0b000#3 0b1100011#7
  | .bne rs1 rs2 off => encB off rs2 rs1 0b001#3 0b1100011#7
  | .blt rs1 rs2 off => encB off rs2 rs1 0b100#3 0b1100011#7
  | .bge rs1 rs2 off => encB off rs2 rs1 0b101#3 0b1100011#7
  | .bltu rs1 rs2 off => encB off rs2 rs1 0b110#3 0b1100011#7
  | .bgeu rs1 rs2 off => encB off rs2 rs1 0b111#3 0b1100011#7
  | .lb rd rs1 imm => encI imm rs1 0b000#3 rd 0b0000011#7
  | .lh rd rs1 imm => encI imm rs1 0b001#3 rd 0b0000011#7
  | .lw rd rs1 imm => encI imm rs1 0b010#3 rd 0b0000011#7
  | .lbu rd rs1 imm => encI imm rs1 0b100#3 rd 0b0000011#7
  | .lhu rd rs1 imm => encI imm rs1 0b101#3 rd 0b0000011#7
  | .sb rs1 rs2 imm => encS imm rs2 rs1 0b000#3 0b0100011#7
  | .sh rs1 rs2 imm => encS imm rs2 rs1 0b001#3 0b0100011#7
  | .sw rs1 rs2 imm => encS imm rs2 rs1 0b010#3 0b0100011#7
  | .addi rd rs1 imm => encI imm rs1 0b000#3 rd 0b0010011#7
  | .slti rd rs1 imm => encI imm rs1 0b010#3 rd 0b0010011#7
  | .sltiu rd rs1 imm => encI imm rs1 0b011#3 rd 0b0010011#7
  | .xori rd rs1 imm => encI imm rs1 0b100#3 rd 0b0010011#7
  | .ori rd rs1 imm => encI imm rs1 0b110#3 rd 0b0010011#7
  | .andi rd rs1 imm => encI imm rs1 0b111#3 rd 0b0010011#7
  | .slli rd rs1 shamt => encR 0b0000000#7 shamt rs1 0b001#3 rd 0b0010011#7
  | .srli rd rs1 shamt => encR 0b0000000#7 shamt rs1 0b101#3 rd 0b0010011#7
  | .srai rd rs1 shamt => encR 0b0100000#7 shamt rs1 0b101#3 rd 0b0010011#7
  | .add rd rs1 rs2 => encR 0b0000000#7 rs2 rs1 0b000#3 rd 0b0110011#7
  | .sub rd rs1 rs2 => encR 0b0100000#7 rs2 rs1 0b000#3 rd 0b0110011#7
  | .sll rd rs1 rs2 => encR 0b0000000#7 rs2 rs1 0b001#3 rd 0b0110011#7
  | .slt rd rs1 rs2 => encR 0b0000000#7 rs2 rs1 0b010#3 rd 0b0110011#7
  | .sltu rd rs1 rs2 => encR 0b0000000#7 rs2 rs1 0b011#3 rd 0b0110011#7
  | .xor rd rs1 rs2 => encR 0b0000000#7 rs2 rs1 0b100#3 rd 0b0110011#7
  | .srl rd rs1 rs2 => encR 0b0000000#7 rs2 rs1 0b101#3 rd 0b0110011#7
  | .sra rd rs1 rs2 => encR 0b0100000#7 rs2 rs1 0b101#3 rd 0b0110011#7
  | .or rd rs1 rs2 => encR 0b0000000#7 rs2 rs1 0b110#3 rd 0b0110011#7
  | .and rd rs1 rs2 => encR 0b0000000#7 rs2 rs1 0b111#3 rd 0b0110011#7
  | .fence pred succ => encFence pred succ
  | .fenceI => encI 0b000000000000#12 0b00000#5 0b001#3 0b00000#5 0b0001111#7
  | .ecall => encI 0b000000000000#12 0b00000#5 0b000#3 0b00000#5 0b1110011#7
  | .ebreak => encI 0b000000000001#12 0b00000#5 0b000#3 0b00000#5 0b1110011#7
  | .csrrw rd csr rs1 => encI csr rs1 0b001#3 rd 0b1110011#7
  | .csrrs rd csr rs1 => encI csr rs1 0b010#3 rd 0b1110011#7
  | .csrrc rd csr rs1 => encI csr rs1 0b011#3 rd 0b1110011#7
  | .csrrwi rd csr uimm => encI csr uimm 0b101#3 rd 0b1110011#7
  | .csrrsi rd csr uimm => encI csr uimm 0b110#3 rd 0b1110011#7
  | .csrrci rd csr uimm => encI csr uimm 0b111#3 rd 0b1110011#7
  | .mul rd rs1 rs2 => encR 0b0000001#7 rs2 rs1 0b000#3 rd 0b0110011#7
  | .mulh rd rs1 rs2 => encR 0b0000001#7 rs2 rs1 0b001#3 rd 0b0110011#7
  | .mulhsu rd rs1 rs2 => encR 0b0000001#7 rs2 rs1 0b010#3 rd 0b0110011#7
  | .mulhu rd rs1 rs2 => encR 0b0000001#7 rs2 rs1 0b011#3 rd 0b0110011#7
  | .div rd rs1 rs2 => encR 0b0000001#7 rs2 rs1 0b100#3 rd 0b0110011#7
  | .divu rd rs1 rs2 => encR 0b0000001#7 rs2 rs1 0b101#3 rd 0b0110011#7
  | .rem rd rs1 rs2 => encR 0b0000001#7 rs2 rs1 0b110#3 rd 0b0110011#7
  | .remu rd rs1 rs2 => encR 0b0000001#7 rs2 rs1 0b111#3 rd 0b0110011#7
  | .lwu rd rs1 imm => encI imm rs1 0b110#3 rd 0b0000011#7
  | .ld rd rs1 imm => encI imm rs1 0b011#3 rd 0b0000011#7
  | .sd rs1 rs2 imm => encS imm rs2 rs1 0b011#3 0b0100011#7
  | .slliRv64 rd rs1 shamt => encShift6 0b000000#6 shamt rs1 0b001#3 rd 0b0010011#7
  | .srliRv64 rd rs1 shamt => encShift6 0b000000#6 shamt rs1 0b101#3 rd 0b0010011#7
  | .sraiRv64 rd rs1 shamt => encShift6 0b010000#6 shamt rs1 0b101#3 rd 0b0010011#7
  | .addiw rd rs1 imm => encI imm rs1 0b000#3 rd 0b0011011#7
  | .slliw rd rs1 shamt => encR 0b0000000#7 shamt rs1 0b001#3 rd 0b0011011#7
  | .srliw rd rs1 shamt => encR 0b0000000#7 shamt rs1 0b101#3 rd 0b0011011#7
  | .sraiw rd rs1 shamt => encR 0b0100000#7 shamt rs1 0b101#3 rd 0b0011011#7
  | .addw rd rs1 rs2 => encR 0b0000000#7 rs2 rs1 0b000#3 rd 0b0111011#7
  | .subw rd rs1 rs2 => encR 0b0100000#7 rs2 rs1 0b000#3 rd 0b0111011#7
  | .sllw rd rs1 rs2 => encR 0b0000000#7 rs2 rs1 0b001#3 rd 0b0111011#7
  | .srlw rd rs1 rs2 => encR 0b0000000#7 rs2 rs1 0b101#3 rd 0b0111011#7
  | .sraw rd rs1 rs2 => encR 0b0100000#7 rs2 rs1 0b101#3 rd 0b0111011#7
  | .mulw rd rs1 rs2 => encR 0b0000001#7 rs2 rs1 0b000#3 rd 0b0111011#7
  | .divw rd rs1 rs2 => encR 0b0000001#7 rs2 rs1 0b100#3 rd 0b0111011#7
  | .divuw rd rs1 rs2 => encR 0b0000001#7 rs2 rs1 0b101#3 rd 0b0111011#7
  | .remw rd rs1 rs2 => encR 0b0000001#7 rs2 rs1 0b110#3 rd 0b0111011#7
  | .remuw rd rs1 rs2 => encR 0b0000001#7 rs2 rs1 0b111#3 rd 0b0111011#7
  | .lrW rd rs1 aq rl => encAmo 0b00010#5 aq rl 0b00000#5 rs1 0b010#3 rd 0b0101111#7
  | .scW rd rs1 rs2 aq rl => encAmo 0b00011#5 aq rl rs2 rs1 0b010#3 rd 0b0101111#7
  | .amoswapW rd rs1 rs2 aq rl => encAmo 0b00001#5 aq rl rs2 rs1 0b010#3 rd 0b0101111#7
  | .amoaddW rd rs1 rs2 aq rl => encAmo 0b00000#5 aq rl rs2 rs1 0b010#3 rd 0b0101111#7
  | .amoxorW rd rs1 rs2 aq rl => encAmo 0b00100#5 aq rl rs2 rs1 0b010#3 rd 0b0101111#7
  | .amoandW rd rs1 rs2 aq rl => encAmo 0b01100#5 aq rl rs2 rs1 0b010#3 rd 0b0101111#7
  | .amoorW rd rs1 rs2 aq rl => encAmo 0b01000#5 aq rl rs2 rs1 0b010#3 rd 0b0101111#7
  | .amominW rd rs1 rs2 aq rl => encAmo 0b10000#5 aq rl rs2 rs1 0b010#3 rd 0b0101111#7
  | .amomaxW rd rs1 rs2 aq rl => encAmo 0b10100#5 aq rl rs2 rs1 0b010#3 rd 0b0101111#7
  | .amominuW rd rs1 rs2 aq rl => encAmo 0b11000#5 aq rl rs2 rs1 0b010#3 rd 0b0101111#7
  | .amomaxuW rd rs1 rs2 aq rl => encAmo 0b11100#5 aq rl rs2 rs1 0b010#3 rd 0b0101111#7
  | .lrD rd rs1 aq rl => encAmo 0b00010#5 aq rl 0b00000#5 rs1 0b011#3 rd 0b0101111#7
  | .scD rd rs1 rs2 aq rl => encAmo 0b00011#5 aq rl rs2 rs1 0b011#3 rd 0b0101111#7
  | .amoswapD rd rs1 rs2 aq rl => encAmo 0b00001#5 aq rl rs2 rs1 0b011#3 rd 0b0101111#7
  | .amoaddD rd rs1 rs2 aq rl => encAmo 0b00000#5 aq rl rs2 rs1 0b011#3 rd 0b0101111#7
  | .amoxorD rd rs1 rs2 aq rl => encAmo 0b00100#5 aq rl rs2 rs1 0b011#3 rd 0b0101111#7
  | .amoandD rd rs1 rs2 aq rl => encAmo 0b01100#5 aq rl rs2 rs1 0b011#3 rd 0b0101111#7
  | .amoorD rd rs1 rs2 aq rl => encAmo 0b01000#5 aq rl rs2 rs1 0b011#3 rd 0b0101111#7
  | .amominD rd rs1 rs2 aq rl => encAmo 0b10000#5 aq rl rs2 rs1 0b011#3 rd 0b0101111#7
  | .amomaxD rd rs1 rs2 aq rl => encAmo 0b10100#5 aq rl rs2 rs1 0b011#3 rd 0b0101111#7
  | .amominuD rd rs1 rs2 aq rl => encAmo 0b11000#5 aq rl rs2 rs1 0b011#3 rd 0b0101111#7
  | .amomaxuD rd rs1 rs2 aq rl => encAmo 0b11100#5 aq rl rs2 rs1 0b011#3 rd 0b0101111#7
  | .flw rd rs1 imm => encI imm rs1 0b010#3 rd 0b0000111#7
  | .fsw rs1 rs2 imm => encS imm rs2 rs1 0b010#3 0b0100111#7
  | .fmaddS rd rs1 rs2 rs3 rm => encR4 rs3 0b00#2 rs2 rs1 rm rd 0b1000011#7
  | .fmsubS rd rs1 rs2 rs3 rm => encR4 rs3 0b00#2 rs2 rs1 rm rd 0b1000111#7
  | .fnmsubS rd rs1 rs2 rs3 rm => encR4 rs3 0b00#2 rs2 rs1 rm rd 0b1001011#7
  | .fnmaddS rd rs1 rs2 rs3 rm => encR4 rs3 0b00#2 rs2 rs1 rm rd 0b1001111#7
  | .faddS rd rs1 rs2 rm => encR 0b0000000#7 rs2 rs1 rm rd 0b1010011#7
  | .fsubS rd rs1 rs2 rm => encR 0b0000100#7 rs2 rs1 rm rd 0b1010011#7
  | .fmulS rd rs1 rs2 rm => encR 0b0001000#7 rs2 rs1 rm rd 0b1010011#7
  | .fdivS rd rs1 rs2 rm => encR 0b0001100#7 rs2 rs1 rm rd 0b1010011#7
  | .fsqrtS rd rs1 rm => encR 0b0101100#7 0b00000#5 rs1 rm rd 0b1010011#7
  | .fsgnjS rd rs1 rs2 => encR 0b0010000#7 rs2 rs1 0b000#3 rd 0b1010011#7
  | .fsgnjnS rd rs1 rs2 => encR 0b0010000#7 rs2 rs1 0b001#3 rd 0b1010011#7
  | .fsgnjxS rd rs1 rs2 => encR 0b0010000#7 rs2 rs1 0b010#3 rd 0b1010011#7
  | .fminS rd rs1 rs2 => encR 0b0010100#7 rs2 rs1 0b000#3 rd 0b1010011#7
  | .fmaxS rd rs1 rs2 => encR 0b0010100#7 rs2 rs1 0b001#3 rd 0b1010011#7
  | .fcvtWS rd rs1 rm => encR 0b1100000#7 0b00000#5 rs1 rm rd 0b1010011#7
  | .fcvtWuS rd rs1 rm => encR 0b1100000#7 0b00001#5 rs1 rm rd 0b1010011#7
  | .fmvXW rd rs1 => encR 0b1110000#7 0b00000#5 rs1 0b000#3 rd 0b1010011#7
  | .feqS rd rs1 rs2 => encR 0b1010000#7 rs2 rs1 0b010#3 rd 0b1010011#7
  | .fltS rd rs1 rs2 => encR 0b1010000#7 rs2 rs1 0b001#3 rd 0b1010011#7
  | .fleS rd rs1 rs2 => encR 0b1010000#7 rs2 rs1 0b000#3 rd 0b1010011#7
  | .fclassS rd rs1 => encR 0b1110000#7 0b00000#5 rs1 0b001#3 rd 0b1010011#7
  | .fcvtSW rd rs1 rm => encR 0b1101000#7 0b00000#5 rs1 rm rd 0b1010011#7
  | .fcvtSWu rd rs1 rm => encR 0b1101000#7 0b00001#5 rs1 rm rd 0b1010011#7
  | .fmvWX rd rs1 => encR 0b1111000#7 0b00000#5 rs1 0b000#3 rd 0b1010011#7
  | .fcvtLS rd rs1 rm => encR 0b1100000#7 0b00010#5 rs1 rm rd 0b1010011#7
  | .fcvtLuS rd rs1 rm => encR 0b1100000#7 0b00011#5 rs1 rm rd 0b1010011#7
  | .fcvtSL rd rs1 rm => encR 0b1101000#7 0b00010#5 rs1 rm rd 0b1010011#7
  | .fcvtSLu rd rs1 rm => encR 0b1101000#7 0b00011#5 rs1 rm rd 0b1010011#7
  | .fld rd rs1 imm => encI imm rs1 0b011#3 rd 0b0000111#7
  | .fsd rs1 rs2 imm => encS imm rs2 rs1 0b011#3 0b0100111#7
  | .fmaddD rd rs1 rs2 rs3 rm => encR4 rs3 0b01#2 rs2 rs1 rm rd 0b1000011#7
  | .fmsubD rd rs1 rs2 rs3 rm => encR4 rs3 0b01#2 rs2 rs1 rm rd 0b1000111#7
  | .fnmsubD rd rs1 rs2 rs3 rm => encR4 rs3 0b01#2 rs2 rs1 rm rd 0b1001011#7
  | .fnmaddD rd rs1 rs2 rs3 rm => encR4 rs3 0b01#2 rs2 rs1 rm rd 0b1001111#7
  | .faddD rd rs1 rs2 rm => encR 0b0000001#7 rs2 rs1 rm rd 0b1010011#7
  | .fsubD rd rs1 rs2 rm => encR 0b0000101#7 rs2 rs1 rm rd 0b1010011#7
  | .fmulD rd rs1 rs2 rm => encR 0b0001001#7 rs2 rs1 rm rd 0b1010011#7
  | .fdivD rd rs1 rs2 rm => encR 0b0001101#7 rs2 rs1 rm rd 0b1010011#7
  | .fsqrtD rd rs1 rm => encR 0b0101101#7 0b00000#5 rs1 rm rd 0b1010011#7
  | .fsgnjD rd rs1 rs2 => encR 0b0010001#7 rs2 rs1 0b000#3 rd 0b1010011#7
  | .fsgnjnD rd rs1 rs2 => encR 0b0010001#7 rs2 rs1 0b001#3 rd 0b1010011#7
  | .fsgnjxD rd rs1 rs2 => encR 0b0010001#7 rs2 rs1 0b010#3 rd 0b1010011#7
  | .fminD rd rs1 rs2 => encR 0b0010101#7 rs2 rs1 0b000#3 rd 0b1010011#7
  | .fmaxD rd rs1 rs2 => encR 0b0010101#7 rs2 rs1 0b001#3 rd 0b1010011#7
  | .fcvtSD rd rs1 rm => encR 0b0100000#7 0b00001#5 rs1 rm rd 0b1010011#7
  | .fcvtDS rd rs1 rm => encR 0b0100001#7 0b00000#5 rs1 rm rd 0b1010011#7
  | .feqD rd rs1 rs2 => encR 0b1010001#7 rs2 rs1 0b010#3 rd 0b1010011#7
  | .fltD rd rs1 rs2 => encR 0b1010001#7 rs2 rs1 0b001#3 rd 0b1010011#7
  | .fleD rd rs1 rs2 => encR 0b1010001#7 rs2 rs1 0b000#3 rd 0b1010011#7
  | .fclassD rd rs1 => encR 0b1110001#7 0b00000#5 rs1 0b001#3 rd 0b1010011#7
  | .fcvtWD rd rs1 rm => encR 0b1100001#7 0b00000#5 rs1 rm rd 0b1010011#7
  | .fcvtWuD rd rs1 rm => encR 0b1100001#7 0b00001#5 rs1 rm rd 0b1010011#7
  | .fcvtDW rd rs1 rm => encR 0b1101001#7 0b00000#5 rs1 rm rd 0b1010011#7
  | .fcvtDWu rd rs1 rm => encR 0b1101001#7 0b00001#5 rs1 rm rd 0b1010011#7
  | .fcvtLD rd rs1 rm => encR 0b1100001#7 0b00010#5 rs1 rm rd 0b1010011#7
  | .fcvtLuD rd rs1 rm => encR 0b1100001#7 0b00011#5 rs1 rm rd 0b1010011#7
  | .fmvXD rd rs1 => encR 0b1110001#7 0b00000#5 rs1 0b000#3 rd 0b1010011#7
  | .fcvtDL rd rs1 rm => encR 0b1101001#7 0b00010#5 rs1 rm rd 0b1010011#7
  | .fcvtDLu rd rs1 rm => encR 0b1101001#7 0b00011#5 rs1 rm rd 0b1010011#7
  | .fmvDX rd rs1 => encR 0b1111001#7 0b00000#5 rs1 0b000#3 rd 0b1010011#7

/-! ### The opcode table (30_encoding.md R119: "matches a row" is `inst AND mask = match`) -/

/-- One row of spec/opcode_table.json: its mnemonic, its fixed bits and whether this hardware executes it. -/
structure OpcodeRow where
  mnemonic : String
  pattern : Word
  mask : Word
  executed : Bool
  deriving DecidableEq, Repr

/-- The word has the row's fixed bits. -/
def OpcodeRow.covers (r : OpcodeRow) (w : Word) : Bool := w &&& r.mask == r.pattern

/-- RV32I, 47 rows. -/
def rowsRv32i : List OpcodeRow :=
  [ ⟨"LUI", 0x00000037#32, 0x0000007F#32, true⟩
  , ⟨"AUIPC", 0x00000017#32, 0x0000007F#32, true⟩
  , ⟨"JAL", 0x0000006F#32, 0x0000007F#32, true⟩
  , ⟨"JALR", 0x00000067#32, 0x0000707F#32, true⟩
  , ⟨"BEQ", 0x00000063#32, 0x0000707F#32, true⟩
  , ⟨"BNE", 0x00001063#32, 0x0000707F#32, true⟩
  , ⟨"BLT", 0x00004063#32, 0x0000707F#32, true⟩
  , ⟨"BGE", 0x00005063#32, 0x0000707F#32, true⟩
  , ⟨"BLTU", 0x00006063#32, 0x0000707F#32, true⟩
  , ⟨"BGEU", 0x00007063#32, 0x0000707F#32, true⟩
  , ⟨"LB", 0x00000003#32, 0x0000707F#32, true⟩
  , ⟨"LH", 0x00001003#32, 0x0000707F#32, true⟩
  , ⟨"LW", 0x00002003#32, 0x0000707F#32, true⟩
  , ⟨"LBU", 0x00004003#32, 0x0000707F#32, true⟩
  , ⟨"LHU", 0x00005003#32, 0x0000707F#32, true⟩
  , ⟨"SB", 0x00000023#32, 0x0000707F#32, true⟩
  , ⟨"SH", 0x00001023#32, 0x0000707F#32, true⟩
  , ⟨"SW", 0x00002023#32, 0x0000707F#32, true⟩
  , ⟨"ADDI", 0x00000013#32, 0x0000707F#32, true⟩
  , ⟨"SLTI", 0x00002013#32, 0x0000707F#32, true⟩
  , ⟨"SLTIU", 0x00003013#32, 0x0000707F#32, true⟩
  , ⟨"XORI", 0x00004013#32, 0x0000707F#32, true⟩
  , ⟨"ORI", 0x00006013#32, 0x0000707F#32, true⟩
  , ⟨"ANDI", 0x00007013#32, 0x0000707F#32, true⟩
  , ⟨"SLLI", 0x00001013#32, 0xFE00707F#32, true⟩
  , ⟨"SRLI", 0x00005013#32, 0xFE00707F#32, true⟩
  , ⟨"SRAI", 0x40005013#32, 0xFE00707F#32, true⟩
  , ⟨"ADD", 0x00000033#32, 0xFE00707F#32, true⟩
  , ⟨"SUB", 0x40000033#32, 0xFE00707F#32, true⟩
  , ⟨"SLL", 0x00001033#32, 0xFE00707F#32, true⟩
  , ⟨"SLT", 0x00002033#32, 0xFE00707F#32, true⟩
  , ⟨"SLTU", 0x00003033#32, 0xFE00707F#32, true⟩
  , ⟨"XOR", 0x00004033#32, 0xFE00707F#32, true⟩
  , ⟨"SRL", 0x00005033#32, 0xFE00707F#32, true⟩
  , ⟨"SRA", 0x40005033#32, 0xFE00707F#32, true⟩
  , ⟨"OR", 0x00006033#32, 0xFE00707F#32, true⟩
  , ⟨"AND", 0x00007033#32, 0xFE00707F#32, true⟩
  , ⟨"FENCE", 0x0000000F#32, 0xF00FFFFF#32, true⟩
  , ⟨"FENCE.I", 0x0000100F#32, 0xFFFFFFFF#32, true⟩
  , ⟨"ECALL", 0x00000073#32, 0xFFFFFFFF#32, true⟩
  , ⟨"EBREAK", 0x00100073#32, 0xFFFFFFFF#32, true⟩
  , ⟨"CSRRW", 0x00001073#32, 0x0000707F#32, true⟩
  , ⟨"CSRRS", 0x00002073#32, 0x0000707F#32, true⟩
  , ⟨"CSRRC", 0x00003073#32, 0x0000707F#32, true⟩
  , ⟨"CSRRWI", 0x00005073#32, 0x0000707F#32, true⟩
  , ⟨"CSRRSI", 0x00006073#32, 0x0000707F#32, true⟩
  , ⟨"CSRRCI", 0x00007073#32, 0x0000707F#32, true⟩ ]

/-- RV32M, 8 rows. -/
def rowsRv32m : List OpcodeRow :=
  [ ⟨"MUL", 0x02000033#32, 0xFE00707F#32, true⟩
  , ⟨"MULH", 0x02001033#32, 0xFE00707F#32, true⟩
  , ⟨"MULHSU", 0x02002033#32, 0xFE00707F#32, true⟩
  , ⟨"MULHU", 0x02003033#32, 0xFE00707F#32, true⟩
  , ⟨"DIV", 0x02004033#32, 0xFE00707F#32, true⟩
  , ⟨"DIVU", 0x02005033#32, 0xFE00707F#32, true⟩
  , ⟨"REM", 0x02006033#32, 0xFE00707F#32, true⟩
  , ⟨"REMU", 0x02007033#32, 0xFE00707F#32, true⟩ ]

/-- RV64I, 15 rows, listed only. -/
def rowsRv64i : List OpcodeRow :=
  [ ⟨"LWU", 0x00006003#32, 0x0000707F#32, false⟩
  , ⟨"LD", 0x00003003#32, 0x0000707F#32, false⟩
  , ⟨"SD", 0x00003023#32, 0x0000707F#32, false⟩
  , ⟨"SLLI__RV64I", 0x00001013#32, 0xFC00707F#32, false⟩
  , ⟨"SRLI__RV64I", 0x00005013#32, 0xFC00707F#32, false⟩
  , ⟨"SRAI__RV64I", 0x40005013#32, 0xFC00707F#32, false⟩
  , ⟨"ADDIW", 0x0000001B#32, 0x0000707F#32, false⟩
  , ⟨"SLLIW", 0x0000101B#32, 0xFE00707F#32, false⟩
  , ⟨"SRLIW", 0x0000501B#32, 0xFE00707F#32, false⟩
  , ⟨"SRAIW", 0x4000501B#32, 0xFE00707F#32, false⟩
  , ⟨"ADDW", 0x0000003B#32, 0xFE00707F#32, false⟩
  , ⟨"SUBW", 0x4000003B#32, 0xFE00707F#32, false⟩
  , ⟨"SLLW", 0x0000103B#32, 0xFE00707F#32, false⟩
  , ⟨"SRLW", 0x0000503B#32, 0xFE00707F#32, false⟩
  , ⟨"SRAW", 0x4000503B#32, 0xFE00707F#32, false⟩ ]

/-- RV64M, 5 rows, listed only. -/
def rowsRv64m : List OpcodeRow :=
  [ ⟨"MULW", 0x0200003B#32, 0xFE00707F#32, false⟩
  , ⟨"DIVW", 0x0200403B#32, 0xFE00707F#32, false⟩
  , ⟨"DIVUW", 0x0200503B#32, 0xFE00707F#32, false⟩
  , ⟨"REMW", 0x0200603B#32, 0xFE00707F#32, false⟩
  , ⟨"REMUW", 0x0200703B#32, 0xFE00707F#32, false⟩ ]

/-- RV32A and RV64A, 22 rows, listed only. -/
def rowsA : List OpcodeRow :=
  [ ⟨"LR.W", 0x1000202F#32, 0xF9F0707F#32, false⟩
  , ⟨"SC.W", 0x1800202F#32, 0xF800707F#32, false⟩
  , ⟨"AMOSWAP.W", 0x0800202F#32, 0xF800707F#32, false⟩
  , ⟨"AMOADD.W", 0x0000202F#32, 0xF800707F#32, false⟩
  , ⟨"AMOXOR.W", 0x2000202F#32, 0xF800707F#32, false⟩
  , ⟨"AMOAND.W", 0x6000202F#32, 0xF800707F#32, false⟩
  , ⟨"AMOOR.W", 0x4000202F#32, 0xF800707F#32, false⟩
  , ⟨"AMOMIN.W", 0x8000202F#32, 0xF800707F#32, false⟩
  , ⟨"AMOMAX.W", 0xA000202F#32, 0xF800707F#32, false⟩
  , ⟨"AMOMINU.W", 0xC000202F#32, 0xF800707F#32, false⟩
  , ⟨"AMOMAXU.W", 0xE000202F#32, 0xF800707F#32, false⟩
  , ⟨"LR.D", 0x1000302F#32, 0xF9F0707F#32, false⟩
  , ⟨"SC.D", 0x1800302F#32, 0xF800707F#32, false⟩
  , ⟨"AMOSWAP.D", 0x0800302F#32, 0xF800707F#32, false⟩
  , ⟨"AMOADD.D", 0x0000302F#32, 0xF800707F#32, false⟩
  , ⟨"AMOXOR.D", 0x2000302F#32, 0xF800707F#32, false⟩
  , ⟨"AMOAND.D", 0x6000302F#32, 0xF800707F#32, false⟩
  , ⟨"AMOOR.D", 0x4000302F#32, 0xF800707F#32, false⟩
  , ⟨"AMOMIN.D", 0x8000302F#32, 0xF800707F#32, false⟩
  , ⟨"AMOMAX.D", 0xA000302F#32, 0xF800707F#32, false⟩
  , ⟨"AMOMINU.D", 0xC000302F#32, 0xF800707F#32, false⟩
  , ⟨"AMOMAXU.D", 0xE000302F#32, 0xF800707F#32, false⟩ ]

/-- RV32F and RV64F, 30 rows, listed only. -/
def rowsF : List OpcodeRow :=
  [ ⟨"FLW", 0x00002007#32, 0x0000707F#32, false⟩
  , ⟨"FSW", 0x00002027#32, 0x0000707F#32, false⟩
  , ⟨"FMADD.S", 0x00000043#32, 0x0600007F#32, false⟩
  , ⟨"FMSUB.S", 0x00000047#32, 0x0600007F#32, false⟩
  , ⟨"FNMSUB.S", 0x0000004B#32, 0x0600007F#32, false⟩
  , ⟨"FNMADD.S", 0x0000004F#32, 0x0600007F#32, false⟩
  , ⟨"FADD.S", 0x00000053#32, 0xFE00007F#32, false⟩
  , ⟨"FSUB.S", 0x08000053#32, 0xFE00007F#32, false⟩
  , ⟨"FMUL.S", 0x10000053#32, 0xFE00007F#32, false⟩
  , ⟨"FDIV.S", 0x18000053#32, 0xFE00007F#32, false⟩
  , ⟨"FSQRT.S", 0x58000053#32, 0xFFF0007F#32, false⟩
  , ⟨"FSGNJ.S", 0x20000053#32, 0xFE00707F#32, false⟩
  , ⟨"FSGNJN.S", 0x20001053#32, 0xFE00707F#32, false⟩
  , ⟨"FSGNJX.S", 0x20002053#32, 0xFE00707F#32, false⟩
  , ⟨"FMIN.S", 0x28000053#32, 0xFE00707F#32, false⟩
  , ⟨"FMAX.S", 0x28001053#32, 0xFE00707F#32, false⟩
  , ⟨"FCVT.W.S", 0xC0000053#32, 0xFFF0007F#32, false⟩
  , ⟨"FCVT.WU.S", 0xC0100053#32, 0xFFF0007F#32, false⟩
  , ⟨"FMV.X.W", 0xE0000053#32, 0xFFF0707F#32, false⟩
  , ⟨"FEQ.S", 0xA0002053#32, 0xFE00707F#32, false⟩
  , ⟨"FLT.S", 0xA0001053#32, 0xFE00707F#32, false⟩
  , ⟨"FLE.S", 0xA0000053#32, 0xFE00707F#32, false⟩
  , ⟨"FCLASS.S", 0xE0001053#32, 0xFFF0707F#32, false⟩
  , ⟨"FCVT.S.W", 0xD0000053#32, 0xFFF0007F#32, false⟩
  , ⟨"FCVT.S.WU", 0xD0100053#32, 0xFFF0007F#32, false⟩
  , ⟨"FMV.W.X", 0xF0000053#32, 0xFFF0707F#32, false⟩
  , ⟨"FCVT.L.S", 0xC0200053#32, 0xFFF0007F#32, false⟩
  , ⟨"FCVT.LU.S", 0xC0300053#32, 0xFFF0007F#32, false⟩
  , ⟨"FCVT.S.L", 0xD0200053#32, 0xFFF0007F#32, false⟩
  , ⟨"FCVT.S.LU", 0xD0300053#32, 0xFFF0007F#32, false⟩ ]

/-- RV32D and RV64D, 32 rows, listed only. -/
def rowsD : List OpcodeRow :=
  [ ⟨"FLD", 0x00003007#32, 0x0000707F#32, false⟩
  , ⟨"FSD", 0x00003027#32, 0x0000707F#32, false⟩
  , ⟨"FMADD.D", 0x02000043#32, 0x0600007F#32, false⟩
  , ⟨"FMSUB.D", 0x02000047#32, 0x0600007F#32, false⟩
  , ⟨"FNMSUB.D", 0x0200004B#32, 0x0600007F#32, false⟩
  , ⟨"FNMADD.D", 0x0200004F#32, 0x0600007F#32, false⟩
  , ⟨"FADD.D", 0x02000053#32, 0xFE00007F#32, false⟩
  , ⟨"FSUB.D", 0x0A000053#32, 0xFE00007F#32, false⟩
  , ⟨"FMUL.D", 0x12000053#32, 0xFE00007F#32, false⟩
  , ⟨"FDIV.D", 0x1A000053#32, 0xFE00007F#32, false⟩
  , ⟨"FSQRT.D", 0x5A000053#32, 0xFFF0007F#32, false⟩
  , ⟨"FSGNJ.D", 0x22000053#32, 0xFE00707F#32, false⟩
  , ⟨"FSGNJN.D", 0x22001053#32, 0xFE00707F#32, false⟩
  , ⟨"FSGNJX.D", 0x22002053#32, 0xFE00707F#32, false⟩
  , ⟨"FMIN.D", 0x2A000053#32, 0xFE00707F#32, false⟩
  , ⟨"FMAX.D", 0x2A001053#32, 0xFE00707F#32, false⟩
  , ⟨"FCVT.S.D", 0x40100053#32, 0xFFF0007F#32, false⟩
  , ⟨"FCVT.D.S", 0x42000053#32, 0xFFF0007F#32, false⟩
  , ⟨"FEQ.D", 0xA2002053#32, 0xFE00707F#32, false⟩
  , ⟨"FLT.D", 0xA2001053#32, 0xFE00707F#32, false⟩
  , ⟨"FLE.D", 0xA2000053#32, 0xFE00707F#32, false⟩
  , ⟨"FCLASS.D", 0xE2001053#32, 0xFFF0707F#32, false⟩
  , ⟨"FCVT.W.D", 0xC2000053#32, 0xFFF0007F#32, false⟩
  , ⟨"FCVT.WU.D", 0xC2100053#32, 0xFFF0007F#32, false⟩
  , ⟨"FCVT.D.W", 0xD2000053#32, 0xFFF0007F#32, false⟩
  , ⟨"FCVT.D.WU", 0xD2100053#32, 0xFFF0007F#32, false⟩
  , ⟨"FCVT.L.D", 0xC2200053#32, 0xFFF0007F#32, false⟩
  , ⟨"FCVT.LU.D", 0xC2300053#32, 0xFFF0007F#32, false⟩
  , ⟨"FMV.X.D", 0xE2000053#32, 0xFFF0707F#32, false⟩
  , ⟨"FCVT.D.L", 0xD2200053#32, 0xFFF0007F#32, false⟩
  , ⟨"FCVT.D.LU", 0xD2300053#32, 0xFFF0007F#32, false⟩
  , ⟨"FMV.D.X", 0xF2000053#32, 0xFFF0707F#32, false⟩ ]

/-- The 55 rows this hardware executes (30_encoding.md R125). -/
def executedRows : List OpcodeRow := rowsRv32i ++ rowsRv32m

/-- The 104 listed-only rows (30_encoding.md, section 7). -/
def listedRows : List OpcodeRow := rowsRv64i ++ rowsRv64m ++ rowsA ++ rowsF ++ rowsD

/-- All 159 rows. -/
def opcodeTable : List OpcodeRow := executedRows ++ listedRows

end Sys2Proof
end

