-- ==== Sys2Proof/Config.lean ====
section
/-! DEFINITION. What the execution environment fixes for a run (00_scope.md R4, 92_eei_decisions.md), and the free
values: amounts the spec leaves open, each a constant with no body, so that no proof can see what it is. -/

namespace Sys2Proof

/-- The kinds of memory access of the predicate `Legal` (00_scope.md R4 P7). -/
inductive AccessKind where
  | fetch
  | load
  | store
  deriving DecidableEq, Repr

/-- A region of the address space and what it is legal for. `Legal(a, k)` is a parameter over 2^32 addresses; a list
of regions can express every such predicate (20_memory.md R67; log 6). -/
structure Region where
  base : Nat
  size : Nat
  fetch : Bool
  load : Bool
  store : Bool
  deriving DecidableEq, Repr

/-- The parameter `MISALIGNED_DATA` (00_scope.md R4 P6, 20_memory.md R65). -/
inductive MisalignedData where
  | supported
  | trap
  deriving DecidableEq, Repr

/-- The parameter `CAUSE(e)`: one number per exception (60_exceptions.md R503). No rule reads it. -/
structure CauseTable where
  instructionAddressMisaligned : Nat
  instructionAccessFault : Nat
  illegalInstruction : Nat
  breakpoint : Nat
  loadAddressMisaligned : Nat
  loadAccessFault : Nat
  storeAddressMisaligned : Nat
  storeAccessFault : Nat
  environmentCall : Nat
  deriving DecidableEq, Repr

/-- The default numbering of 60_exceptions.md R503. PRESUMED: the spec marks it as general knowledge (log 9). -/
def CauseTable.default : CauseTable :=
  { instructionAddressMisaligned := 0, instructionAccessFault := 1, illegalInstruction := 2, breakpoint := 3,
    loadAddressMisaligned := 4, loadAccessFault := 5, storeAddressMisaligned := 6, storeAccessFault := 7,
    environmentCall := 8 }

/-- The nine numbers, in the order of 60_exceptions.md R503. -/
def CauseTable.numbers (c : CauseTable) : List Nat :=
  [ c.instructionAddressMisaligned, c.instructionAccessFault, c.illegalInstruction, c.breakpoint,
    c.loadAddressMisaligned, c.loadAccessFault, c.storeAddressMisaligned, c.storeAccessFault, c.environmentCall ]

/-- `CAUSE` is injective, so that its number identifies the exception (00_scope.md R4 P12; 92_eei_decisions.md, summary
of the parameters). -/
def CauseTable.wf (c : CauseTable) : Bool := decide c.numbers.Nodup

/-- The parameters of a run that a statement must hold for all of. -/
structure Config where
  /-- `Legal`, P7. -/
  legal : List Region
  /-- `MISALIGNED_DATA`, P6. -/
  misalignedData : MisalignedData
  /-- `ENV_QUIET`: when true, instret advances only by the program's own retirements (10_state.md R32). -/
  envQuiet : Bool
  /-- `CAUSE`, P12; the spec allows only an injective one (`CauseTable.wf`). -/
  cause : CauseTable
  deriving DecidableEq, Repr

/-- The whole address space, legal for every kind of access. -/
def Region.everything : Region :=
  { base := 0, size := 4294967296, fetch := true, load := true, store := true }

/-- The parameters at `State.reset`. DESIGN CHOICE (log 6, log 8): the spec leaves `Legal` and `ENV_QUIET` open;
`MISALIGNED_DATA = supported` is the spec's default (20_memory.md R65, log 7). -/
def Config.atReset : Config :=
  { legal := [Region.everything], misalignedData := .supported, envQuiet := true, cause := CauseTable.default }

/-- FREE VALUE: how far `cycle` advances between two steps (10_state.md R30: any amount, including zero). Applied to
the model's own counter of draws; log 10. -/
opaque Config.cycleAdvance : Nat → Nat

/-- FREE VALUE: how far `time` advances between two steps (10_state.md R31); log 10. -/
opaque Config.timeAdvance : Nat → Nat

/-- FREE VALUE: what the environment adds to `instret` between two steps when `ENV_QUIET` is not taken
(10_state.md R32); log 10. -/
opaque Config.instretAdvance : Nat → Nat

/-- FREE VALUE: what `instret` holds after an instruction retires at the largest 64-bit value, a case the spec says
does not happen in practice and gives no value for (10_state.md R32); log 11. -/
opaque Config.instretPastMax : Nat → Counter

end Sys2Proof
end

