-- ==== Sys2Proof/Machine/State.lean ====
section
/-! DEFINITION. The state of the hart as plain data, the trap outcome, the reasons a step can stop, and the state a
run starts in (10_state.md, 60_exceptions.md R501 and R510). -/

namespace Sys2Proof.Machine

/-- Memory: the bytes that differ from what an unlisted address reads as (10_state.md R37, log 5). -/
abbrev Memory := List Host.Cell

/-- The nine exceptions of 60_exceptions.md R501. -/
inductive Exc where
  | instructionAddressMisaligned
  | instructionAccessFault
  | illegalInstruction
  | breakpoint
  | loadAddressMisaligned
  | loadAccessFault
  | storeAddressMisaligned
  | storeAccessFault
  | environmentCall
  deriving DecidableEq, Repr

/-- The trap outcome `Trap(e, pc, value, state)` of 60_exceptions.md R510; the state of the outcome is the State that
holds the record. -/
structure TrapRecord where
  exc : Exc
  /-- The address of the instruction that raised the exception. -/
  pc : Word
  /-- The recorded value of R501, if the exception has one. -/
  value : Option Word
  deriving DecidableEq, Repr

/-- An exception that an access or a jump would raise, with its recorded value (R501). -/
structure Raise where
  exc : Exc
  value : Word
  deriving DecidableEq, Repr

/-- The six CSRs this hardware implements: windows on the three counters (10_state.md R29 to R33). -/
inductive Csr where
  | cycle
  | time
  | instret
  | cycleh
  | timeh
  | instreth
  deriving DecidableEq, Repr

/-- The state of the hart. -/
structure State where
  /-- x1 to x31; register `xn` is entry `n - 1`. x0 is not stored: `readX` and `writeX` give it its rule (R20, R21). -/
  x : Vector Word 31
  /-- The address of the instruction being executed (R24). -/
  pc : Word
  /-- Clock cycles (R30). -/
  cycle : Counter
  /-- Wall-clock time (R31). -/
  time : Counter
  /-- Instructions retired (R32). -/
  instret : Counter
  /-- Memory (R37). -/
  mem : Memory
  /-- Addresses of the bytes stored to since the last FENCE.I, strictly rising (R38, 20_memory.md R78). -/
  stale : List Nat
  /-- The trap outcome handed to the execution environment, if the last step raised an exception (60_exceptions.md
  R510). DESIGN CHOICE on where it is held: log 1. -/
  trap : Option TrapRecord
  /-- The parameters of the run (00_scope.md R4). -/
  cfg : Config
  /-- The MODEL's own counter of draws of free values; not the spec's state (log 12). -/
  draws : Nat
  deriving DecidableEq, Repr

/-- Why the machine stops. -/
inductive Fault where
  /-- Raised by `step` in a state that holds a trap outcome, and by nothing else: the run ended at that trap
  (60_exceptions.md R510, 70_reset_and_hazards.md R554). Safe: the spec's default `EnvService` is the end of the run,
  and `stepEnv` takes any other as a premise. -/
  | endOfRun (r : TrapRecord)
  deriving DecidableEq, Repr

/-- Why a step has no meaning. -/
inductive Refusal where
  /-- An instruction without a meaning. Raised by nothing: every instruction has its meaning. Safe. -/
  | notModelled (mnemonic : String)
  /-- Raised by `step` when the fetched word is a reserved FENCE or FENCE.I variant (30_encoding.md R121: "a model
  refuses it"). Safe: nothing can be proved of a run that reaches it. -/
  | reservedFence (word : Word)
  /-- Raised by `step` when a byte to be fetched has been stored to since the last FENCE.I (20_memory.md R78: "it
  treats such a fetch as `refuse`"). Safe, as above. -/
  | staleFetch (pc : Word)
  /-- Raised by `step` when pc[1:0] is not 00 (10_state.md R39 clause 1: "unreachable"). Safe, as above. -/
  | unalignedPc (pc : Word)
  deriving DecidableEq, Repr

/-- The three outcomes of an instruction or a step. -/
abbrev StepResult := Host.Outcome State Fault Refusal

/-- What the launcher of a run supplies: every start value the spec leaves open (10_state.md R40,
70_reset_and_hazards.md R550, R553). -/
structure Launch where
  x : Vector Word 31
  resetPc : Word
  cycle : Counter
  time : Counter
  instret : Counter
  mem : Memory
  cfg : Config
  deriving DecidableEq, Repr

/-- The start of a run with the launcher's values: `stale` empty, no trap (R40, R551). -/
def State.launch (l : Launch) : State :=
  { x := l.x, pc := l.resetPc, cycle := l.cycle, time := l.time, instret := l.instret, mem := l.mem,
    stale := [], trap := none, cfg := l.cfg, draws := 0 }

/-- The start values `State.reset` takes where the spec says "arbitrary" or "a parameter". DESIGN CHOICE, unsafe to
rely on: registers 0 (log 2), RESET_PC 0x00001000 (log 3), counters 0 (log 4), nothing in memory (log 5), the
parameters of `Config.atReset` (log 6 to log 9). -/
def Launch.atReset : Launch :=
  { x := Vector.replicate 31 0#32, resetPc := 0x00001000#32, cycle := 0#64, time := 0#64, instret := 0#64,
    mem := [], cfg := Config.atReset }

/-- The hart right after reset (10_state.md R40). -/
def State.reset : State := State.launch Launch.atReset

end Sys2Proof.Machine
end

