-- ==== Sys2Proof/Machine/Operands.lean ====
section
/-! DEFINITION. Every operand form: the immediates a format produces from its field (30_encoding.md R108 to R115),
shift amounts, and the letters of the FENCE operands. Register operands are read by `readX` (Machine/Ops.lean). -/

namespace Sys2Proof.Machine

/-- I-immediate: the 12-bit field sign-extended (R108). -/
def immI (imm : BitVec 12) : Word := imm.signExtend 32

/-- S-immediate: the 12-bit field sign-extended (R109). -/
def immS (imm : BitVec 12) : Word := imm.signExtend 32

/-- B-immediate: the 13-bit offset sign-extended (R110). -/
def immB (off : BitVec 13) : Word := off.signExtend 32

/-- U-immediate: the 20-bit field with twelve zeros below it (R111). -/
def immU (imm : BitVec 20) : Word := imm ++ 0#12

/-- J-immediate: the 21-bit offset sign-extended (R112). -/
def immJ (off : BitVec 21) : Word := off.signExtend 32

/-- The immediate of CSRRWI, CSRRSI, CSRRCI, zero-extended (R114). -/
def immZ (uimm : BitVec 5) : Word := uimm.setWidth 32

/-- The amount of a constant shift, 0 to 31 (R113). -/
def shiftAmountImm (shamt : BitVec 5) : Nat := shamt.toNat

/-- The amount of a register shift: the low five bits of the register's value (40_integer_computational.md R201). -/
def shiftAmountReg (v : Word) : Nat := (v.extractLsb' 0 5).toNat

/-- Target of JALR: bit 0 of the sum cleared (41_control_transfer.md R242). -/
def jalrTarget (base : Word) (imm : BitVec 12) : Word := (base + immI imm) &&& 0xFFFFFFFE#32

/-- The letters of a `pred` or `succ` field, high bit first: i, o, r, w (43_fence.md R282). PRESUMED there; it affects
text only (log 24). DESIGN CHOICE: a field with no letter (0000, as in the word 0x0000000F) is the empty string, so that
word prints as `fence , `; how such an operand is spelled is left open (31_assembler.md R151, 91_not_in_source.md N17;
log 24). -/
def fenceLetters (f : BitVec 4) : String :=
  (if f.getLsbD 3 then "i" else "") ++ (if f.getLsbD 2 then "o" else "") ++
  (if f.getLsbD 1 then "r" else "") ++ (if f.getLsbD 0 then "w" else "")

end Sys2Proof.Machine
end

