-- ==== Sys2Proof/Machine/Ops.lean ====
section
/-! DEFINITION. The named operations every instruction is built from: registers, memory, `Legal`, the CSRs, fetching,
retiring, taking an exception and resuming from one, and what happens between two steps. -/

namespace Sys2Proof.Machine

/-! ### Registers (10_state.md R20, R21) -/

/-- The value of a register; x0 reads 0. -/
def readX (s : State) (r : Reg) : Word :=
  if r = 0#5 then 0#32 else s.x[r.toNat - 1]'(by have := r.isLt; omega)

/-- Write a register; a write to x0 is discarded. -/
def writeX (s : State) (r : Reg) (v : Word) : State :=
  if r = 0#5 then s else { s with x := s.x.set (r.toNat - 1) v (by have := r.isLt; omega) }

/-! ### Memory in canonical form (10_state.md R37) -/

/-- What a byte that nothing has placed or stored reads as. DESIGN CHOICE, unsafe (log 5): the spec says arbitrary. -/
def unlistedByte : Byte := 0#8

/-- Read one byte. -/
def Memory.read (m : Memory) (a : Nat) : Byte :=
  match m with
  | [] => unlistedByte
  | c :: rest => if c.1 = a then c.2 else Memory.read rest a

/-- Forget what is listed for an address. -/
def Memory.erase (m : Memory) (a : Nat) : Memory :=
  match m with
  | [] => []
  | c :: rest => if c.1 = a then Memory.erase rest a else c :: Memory.erase rest a

/-- List a byte at its place in the rising order. -/
def Memory.insert (m : Memory) (a : Nat) (b : Byte) : Memory :=
  match m with
  | [] => [(a, b)]
  | c :: rest => if a < c.1 then (a, b) :: c :: rest else c :: Memory.insert rest a b

/-- Write one byte; a byte equal to what an unlisted address reads as is not listed. -/
def Memory.write (m : Memory) (a : Nat) (b : Byte) : Memory :=
  if b = unlistedByte then Memory.erase m a else Memory.insert (Memory.erase m a) a b

/-- Every address is at least `low`, the addresses rise strictly and fit in 32 bits, and no entry is the unlisted
byte. -/
def Memory.wfFrom (low : Nat) (m : Memory) : Bool :=
  match m with
  | [] => true
  | c :: rest => decide (low ≤ c.1) && decide (c.1 < 4294967296) && decide (c.2 ≠ unlistedByte) &&
      Memory.wfFrom (c.1 + 1) rest

/-- The canonical form of memory. -/
def Memory.wf (m : Memory) : Bool := Memory.wfFrom 0 m

/-- The byte at an address. -/
def byteAt (s : State) (a : Word) : Byte := Memory.read s.mem a.toNat

/-- The two bytes at an address as a halfword, little-endian; the address wraps (20_memory.md R61, R68, R71). -/
def mem16 (s : State) (a : Word) : BitVec 16 := byteAt s (a + 1#32) ++ byteAt s a

/-- The four bytes at an address as a word, little-endian; addresses wrap (20_memory.md R61, R68, R71). -/
def mem32 (s : State) (a : Word) : Word :=
  byteAt s (a + 3#32) ++ byteAt s (a + 2#32) ++ byteAt s (a + 1#32) ++ byteAt s a

/-! ### The set `stale` (10_state.md R38, 20_memory.md R78) -/

/-- Add an address to the set, kept strictly rising. -/
def staleInsert (l : List Nat) (a : Nat) : List Nat :=
  match l with
  | [] => [a]
  | b :: rest => if a < b then a :: b :: rest else if a = b then b :: rest else b :: staleInsert rest a

/-- Remove an address from the set. -/
def staleErase (l : List Nat) (a : Nat) : List Nat :=
  match l with
  | [] => []
  | b :: rest => if b = a then staleErase rest a else b :: staleErase rest a

/-- The addresses rise strictly from `low` and fit in 32 bits. -/
def staleWfFrom (low : Nat) (l : List Nat) : Bool :=
  match l with
  | [] => true
  | a :: rest => decide (low ≤ a) && decide (a < 4294967296) && staleWfFrom (a + 1) rest

/-- One of the `n` bytes at `a` has been stored to since the last FENCE.I. -/
def staleTouches (s : State) (a : Word) (n : Nat) : Bool :=
  (List.range n).any fun i => s.stale.contains (a + BitVec.ofNat 32 i).toNat

/-! ### Legality (00_scope.md R4 P7, 20_memory.md R67) -/

/-- The region permits this kind of access. -/
def regionPermits (r : Region) : AccessKind → Bool
  | .fetch => r.fetch
  | .load => r.load
  | .store => r.store

/-- `Legal(a, k)`. -/
def legalByte (c : Config) (k : AccessKind) (a : Word) : Bool :=
  c.legal.any fun r => decide (r.base ≤ a.toNat) && decide (a.toNat < r.base + r.size) && regionPermits r k

/-- `Legal(a + i mod 2^32, k)` for every `i < n`. -/
def legalRange (c : Config) (k : AccessKind) (a : Word) (n : Nat) : Bool :=
  (List.range n).all fun i => legalByte c k (a + BitVec.ofNat 32 i)

/-- The access is not naturally aligned and the parameter `MISALIGNED_DATA` is `trap` (20_memory.md R65). -/
def misalignedTraps (c : Config) (a : Word) (n : Nat) : Bool :=
  decide (c.misalignedData = .trap) && decide (a.toNat % n ≠ 0)

/-- What a load of `n` bytes at `a` raises: misaligned before access fault (20_memory.md R68, 60_exceptions.md
R505). -/
def loadCheck (s : State) (a : Word) (n : Nat) : Option Raise :=
  if misalignedTraps s.cfg a n then some ⟨.loadAddressMisaligned, a⟩
  else if legalRange s.cfg .load a n then none
  else some ⟨.loadAccessFault, a⟩

/-- What a store of `n` bytes at `a` raises (20_memory.md R69, 60_exceptions.md R505). -/
def storeCheck (s : State) (a : Word) (n : Nat) : Option Raise :=
  if misalignedTraps s.cfg a n then some ⟨.storeAddressMisaligned, a⟩
  else if legalRange s.cfg .store a n then none
  else some ⟨.storeAccessFault, a⟩

/-- Store one byte: it joins `stale` (20_memory.md R69). -/
def storeByte (s : State) (a : Word) (b : Byte) : State :=
  { s with mem := Memory.write s.mem a.toNat b, stale := staleInsert s.stale a.toNat }

/-- Store bytes at consecutive addresses, which wrap (20_memory.md R69, R71). -/
def storeBytes (s : State) (a : Word) (bs : List Byte) : State :=
  match bs with
  | [] => s
  | b :: rest => storeBytes (storeByte s a b) (a + 1#32) rest

/-- The bytes of a value in memory order: the low byte (SB), the low two (SH), all four (SW)
(20_memory.md R61, 42_load_store.md R266 to R268). -/
def storedBytes (v : Word) (n : Nat) : List Byte := (wordBytes v).take n

/-! ### The counters and the CSRs (10_state.md R29 to R35, 44_csr_counters.md R290) -/

/-- The implemented CSR at an address, if there is one. -/
def csrAt (a : BitVec 12) : Option Csr :=
  if a = 0xC00#12 then some .cycle
  else if a = 0xC01#12 then some .time
  else if a = 0xC02#12 then some .instret
  else if a = 0xC80#12 then some .cycleh
  else if a = 0xC81#12 then some .timeh
  else if a = 0xC82#12 then some .instreth
  else none

/-- `readonly(a)`: all six are read-only (R290). -/
def csrReadOnly : Csr → Bool
  | .cycle => true
  | .time => true
  | .instret => true
  | .cycleh => true
  | .timeh => true
  | .instreth => true

/-- `csr_check`: the CSR an instruction may use, or none where it raises IllegalInstruction (R290). -/
def csrCheck (a : BitVec 12) (doesWrite : Bool) : Option Csr :=
  match csrAt a with
  | none => none
  | some c => if doesWrite && csrReadOnly c then none else some c

/-- `CSRRead`: a half of a counter (R290, 10_state.md R30 to R33). -/
def csrRead (s : State) : Csr → Word
  | .cycle => s.cycle.extractLsb' 0 32
  | .time => s.time.extractLsb' 0 32
  | .instret => s.instret.extractLsb' 0 32
  | .cycleh => s.cycle.extractLsb' 32 32
  | .timeh => s.time.extractLsb' 32 32
  | .instreth => s.instret.extractLsb' 32 32

/-- `CSRWrite`: replaces the half of the counter that the CSR is a window on. Never reached on this hardware, since
every implemented CSR is read-only (R290); it stands so that the general rules R291 to R296 read as the spec writes
them. -/
def csrWrite (s : State) (c : Csr) (v : Word) : State :=
  match c with
  | .cycle => { s with cycle := s.cycle.extractLsb' 32 32 ++ v }
  | .time => { s with time := s.time.extractLsb' 32 32 ++ v }
  | .instret => { s with instret := s.instret.extractLsb' 32 32 ++ v }
  | .cycleh => { s with cycle := v ++ s.cycle.extractLsb' 0 32 }
  | .timeh => { s with time := v ++ s.time.extractLsb' 0 32 }
  | .instreth => { s with instret := v ++ s.instret.extractLsb' 0 32 }

/-! ### Completing an instruction (10_state.md R25, R32, R39) -/

/-- instret after one more instruction has retired. At the largest value, which the spec says does not happen in
practice, a free value (log 11). -/
def bumpInstret (s : State) : Counter :=
  if s.instret = BitVec.allOnes 64 then Config.instretPastMax s.draws else s.instret + 1#64

/-- The instruction completes and the next one is at `target`. -/
def retireTo (s : State) (target : Word) : State := { s with pc := target, instret := bumpInstret s }

/-- The instruction completes and the next one follows it (R25). -/
def retire (s : State) : State := retireTo s (s.pc + 4#32)

/-! ### Exceptions (60_exceptions.md R501, R510, R512) -/

/-- Taking an exception: the outcome `Trap(e, pc, value, state)` is handed to the execution environment, and the
state it carries is the state before the instruction. Nothing but the record changes: no register, no byte, pc,
instret and `stale` as they were (R510; log 1). -/
def takeException (s : State) (e : Exc) (value : Option Word) : State :=
  { s with trap := some { exc := e, pc := s.pc, value := value } }

/-- Resuming after a trap: the state the environment answers with, in which no trap is pending. There is no
trap-return instruction: resumption is an act of the environment (R512). DESIGN CHOICE: R510 says the reply is a new
architectural state and not what of State it may replace; here it is a whole State, so it may also replace the
parameters `cfg` and the model's own counter `draws` (log 18). -/
def resume (reply : State) : State := { reply with trap := none }

/-- The number `CAUSE(e)` that identifies an exception to the environment (R503, 00_scope.md R4 P12). No rule reads
it. -/
def causeOf (c : Config) : Exc → Nat
  | .instructionAddressMisaligned => c.cause.instructionAddressMisaligned
  | .instructionAccessFault => c.cause.instructionAccessFault
  | .illegalInstruction => c.cause.illegalInstruction
  | .breakpoint => c.cause.breakpoint
  | .loadAddressMisaligned => c.cause.loadAddressMisaligned
  | .loadAccessFault => c.cause.loadAccessFault
  | .storeAddressMisaligned => c.cause.storeAddressMisaligned
  | .storeAccessFault => c.cause.storeAccessFault
  | .environmentCall => c.cause.environmentCall

/-! ### What an instruction does at its end -/

/-- The instruction raises an exception. -/
def raise (s : State) (e : Exc) (value : Option Word) : StepResult := .next (takeException s e value)

/-- The instruction raises IllegalInstruction; the recorded value is its word (R501; log 20). -/
def illegal (i : Instr) (s : State) : StepResult := raise s .illegalInstruction (some (encode i))

/-- Write a register and complete. -/
def writeAndRetire (s : State) (rd : Reg) (v : Word) : StepResult := .next (retire (writeX s rd v))

/-- The target of a jump or taken branch is not four-byte aligned (41_control_transfer.md R243). -/
def targetMisaligned (target : Word) : Bool := decide (target.extractLsb' 0 2 ≠ 0#2)

/-- JAL and JALR from their target on (R241, R242). -/
def jumpAndLink (s : State) (rd : Reg) (target : Word) : StepResult :=
  if targetMisaligned target then raise s .instructionAddressMisaligned (some target)
  else .next (retireTo (writeX s rd (s.pc + 4#32)) target)

/-- A conditional branch from its condition on (R250). -/
def branchIf (s : State) (taken : Bool) (off : BitVec 13) : StepResult :=
  if taken then
    if targetMisaligned (s.pc + immB off) then raise s .instructionAddressMisaligned (some (s.pc + immB off))
    else .next (retireTo s (s.pc + immB off))
  else .next (retire s)

/-- Effective address of a load (42_load_store.md R260). -/
def loadAddress (s : State) (rs1 : Reg) (imm : BitVec 12) : Word := readX s rs1 + immI imm

/-- Effective address of a store (42_load_store.md R260). -/
def storeAddress (s : State) (rs1 : Reg) (imm : BitVec 12) : Word := readX s rs1 + immS imm

/-- A load of `n` bytes at `ea` whose value is `v`: the checks come first, whatever rd is (R269, R270). -/
def loadTo (s : State) (rd : Reg) (ea : Word) (n : Nat) (v : Word) : StepResult :=
  match loadCheck s ea n with
  | some r => raise s r.exc (some r.value)
  | none => writeAndRetire s rd v

/-- A store of the low `n` bytes of `v` at `ea` (R260, R270). -/
def storeFrom (s : State) (ea : Word) (n : Nat) (v : Word) : StepResult :=
  match storeCheck s ea n with
  | some r => raise s r.exc (some r.value)
  | none => .next (retire (storeBytes s ea (storedBytes v n)))

/-! ### Fetching (20_memory.md R70) -/

/-- What a fetch gives. -/
inductive FetchResult where
  | word (w : Word)
  | accessFault
  | stale
  deriving DecidableEq, Repr

/-- `Fetch(pc)`: legality first, then `stale` (log 14), then the little-endian word (R62, log 13). -/
def fetch (s : State) : FetchResult :=
  if legalRange s.cfg .fetch s.pc 4 then
    if staleTouches s s.pc 4 then .stale else .word (mem32 s s.pc)
  else .accessFault

/-! ### Between two steps (10_state.md R30 to R32, R39 clause 6) -/

/-- A counter after it has advanced by a free amount: never past its largest value, so it never decreases. -/
def advance (c : Counter) (k : Nat) : Counter := BitVec.ofNat 64 (c.toNat + k % (18446744073709551616 - c.toNat))

/-- cycle and time advance by free amounts; so does instret when `ENV_QUIET` is not taken and the hart still runs
(log 10, log 25). -/
def betweenSteps (s : State) : State :=
  { s with
    cycle := advance s.cycle (Config.cycleAdvance s.draws)
    time := advance s.time (Config.timeAdvance s.draws)
    instret :=
      if s.cfg.envQuiet || s.trap.isSome then s.instret else advance s.instret (Config.instretAdvance s.draws)
    draws := s.draws + 1 }

/-! ### Placing code from outside (70_reset_and_hazards.md R553; log 17) -/

/-- Place bytes in memory as a launcher does: they are visible to fetch. -/
def placeBytes (s : State) (a : Word) (bs : List Byte) : State :=
  match bs with
  | [] => s
  | b :: rest =>
    placeBytes { s with mem := Memory.write s.mem a.toNat b, stale := staleErase s.stale a.toNat } (a + 1#32) rest

/-- Make the four bytes at an aligned address legal to fetch, if they are not. -/
def permitFetch (s : State) (a : Word) : State :=
  if legalRange s.cfg .fetch a 4 then s
  else { s with cfg := { s.cfg with legal :=
    { base := a.toNat, size := 4, fetch := true, load := false, store := false } :: s.cfg.legal } }

/-- The instruction word `w` loaded where the hart fetches next. -/
def placeFetchWord (s : State) (w : Word) : State :=
  permitFetch (placeBytes { s with pc := s.pc &&& 0xFFFFFFFC#32, trap := none } (s.pc &&& 0xFFFFFFFC#32) (wordBytes w))
    (s.pc &&& 0xFFFFFFFC#32)

end Sys2Proof.Machine
end

