-- ==== Sys2Proof/Machine/AtomicListed.lean ====
section
/-! DEFINITION. The A extension, listed but not implemented: every word with opcode AMO raises
IllegalInstruction with the word as recorded value and changes no state; there is no reservation (48_a_listed.md R380). -/

namespace Sys2Proof.Machine

/-- LR.W (R381). -/
def execLrW (rd : Reg) (rs1 : Reg) (aq : BitVec 1) (rl : BitVec 1) (s : State) : StepResult :=
  illegal (.lrW rd rs1 aq rl) s

/-- SC.W (R382). -/
def execScW (rd : Reg) (rs1 : Reg) (rs2 : Reg) (aq : BitVec 1) (rl : BitVec 1) (s : State) : StepResult :=
  illegal (.scW rd rs1 rs2 aq rl) s

/-- AMOSWAP.W (R383). -/
def execAmoswapW (rd : Reg) (rs1 : Reg) (rs2 : Reg) (aq : BitVec 1) (rl : BitVec 1) (s : State) : StepResult :=
  illegal (.amoswapW rd rs1 rs2 aq rl) s

/-- AMOADD.W (R384). -/
def execAmoaddW (rd : Reg) (rs1 : Reg) (rs2 : Reg) (aq : BitVec 1) (rl : BitVec 1) (s : State) : StepResult :=
  illegal (.amoaddW rd rs1 rs2 aq rl) s

/-- AMOXOR.W (R385). -/
def execAmoxorW (rd : Reg) (rs1 : Reg) (rs2 : Reg) (aq : BitVec 1) (rl : BitVec 1) (s : State) : StepResult :=
  illegal (.amoxorW rd rs1 rs2 aq rl) s

/-- AMOAND.W (R386). -/
def execAmoandW (rd : Reg) (rs1 : Reg) (rs2 : Reg) (aq : BitVec 1) (rl : BitVec 1) (s : State) : StepResult :=
  illegal (.amoandW rd rs1 rs2 aq rl) s

/-- AMOOR.W (R387). -/
def execAmoorW (rd : Reg) (rs1 : Reg) (rs2 : Reg) (aq : BitVec 1) (rl : BitVec 1) (s : State) : StepResult :=
  illegal (.amoorW rd rs1 rs2 aq rl) s

/-- AMOMIN.W (R388). -/
def execAmominW (rd : Reg) (rs1 : Reg) (rs2 : Reg) (aq : BitVec 1) (rl : BitVec 1) (s : State) : StepResult :=
  illegal (.amominW rd rs1 rs2 aq rl) s

/-- AMOMAX.W (R389). -/
def execAmomaxW (rd : Reg) (rs1 : Reg) (rs2 : Reg) (aq : BitVec 1) (rl : BitVec 1) (s : State) : StepResult :=
  illegal (.amomaxW rd rs1 rs2 aq rl) s

/-- AMOMINU.W (R390). -/
def execAmominuW (rd : Reg) (rs1 : Reg) (rs2 : Reg) (aq : BitVec 1) (rl : BitVec 1) (s : State) : StepResult :=
  illegal (.amominuW rd rs1 rs2 aq rl) s

/-- AMOMAXU.W (R391). -/
def execAmomaxuW (rd : Reg) (rs1 : Reg) (rs2 : Reg) (aq : BitVec 1) (rl : BitVec 1) (s : State) : StepResult :=
  illegal (.amomaxuW rd rs1 rs2 aq rl) s

/-- LR.D (R392). -/
def execLrD (rd : Reg) (rs1 : Reg) (aq : BitVec 1) (rl : BitVec 1) (s : State) : StepResult :=
  illegal (.lrD rd rs1 aq rl) s

/-- SC.D (R393). -/
def execScD (rd : Reg) (rs1 : Reg) (rs2 : Reg) (aq : BitVec 1) (rl : BitVec 1) (s : State) : StepResult :=
  illegal (.scD rd rs1 rs2 aq rl) s

/-- AMOSWAP.D (R394). -/
def execAmoswapD (rd : Reg) (rs1 : Reg) (rs2 : Reg) (aq : BitVec 1) (rl : BitVec 1) (s : State) : StepResult :=
  illegal (.amoswapD rd rs1 rs2 aq rl) s

/-- AMOADD.D (R395). -/
def execAmoaddD (rd : Reg) (rs1 : Reg) (rs2 : Reg) (aq : BitVec 1) (rl : BitVec 1) (s : State) : StepResult :=
  illegal (.amoaddD rd rs1 rs2 aq rl) s

/-- AMOXOR.D (R396). -/
def execAmoxorD (rd : Reg) (rs1 : Reg) (rs2 : Reg) (aq : BitVec 1) (rl : BitVec 1) (s : State) : StepResult :=
  illegal (.amoxorD rd rs1 rs2 aq rl) s

/-- AMOAND.D (R397). -/
def execAmoandD (rd : Reg) (rs1 : Reg) (rs2 : Reg) (aq : BitVec 1) (rl : BitVec 1) (s : State) : StepResult :=
  illegal (.amoandD rd rs1 rs2 aq rl) s

/-- AMOOR.D (R398). -/
def execAmoorD (rd : Reg) (rs1 : Reg) (rs2 : Reg) (aq : BitVec 1) (rl : BitVec 1) (s : State) : StepResult :=
  illegal (.amoorD rd rs1 rs2 aq rl) s

/-- AMOMIN.D (R399). -/
def execAmominD (rd : Reg) (rs1 : Reg) (rs2 : Reg) (aq : BitVec 1) (rl : BitVec 1) (s : State) : StepResult :=
  illegal (.amominD rd rs1 rs2 aq rl) s

/-- AMOMAX.D (R400). -/
def execAmomaxD (rd : Reg) (rs1 : Reg) (rs2 : Reg) (aq : BitVec 1) (rl : BitVec 1) (s : State) : StepResult :=
  illegal (.amomaxD rd rs1 rs2 aq rl) s

/-- AMOMINU.D (R401). -/
def execAmominuD (rd : Reg) (rs1 : Reg) (rs2 : Reg) (aq : BitVec 1) (rl : BitVec 1) (s : State) : StepResult :=
  illegal (.amominuD rd rs1 rs2 aq rl) s

/-- AMOMAXU.D (R402). -/
def execAmomaxuD (rd : Reg) (rs1 : Reg) (rs2 : Reg) (aq : BitVec 1) (rl : BitVec 1) (s : State) : StepResult :=
  illegal (.amomaxuD rd rs1 rs2 aq rl) s

end Sys2Proof.Machine
end

