-- ==== Sys2Proof/Machine/Flags.lean ====
section
/-! DEFINITION. The hart has no flags, no condition codes and no predicate registers (10_state.md R28). What another
machine would do with flags is here: the comparisons made by the branches and the set-less-than instructions, and the
0 or 1 the latter write. -/

namespace Sys2Proof.Machine

/-- `<s`: signed less-than (00_scope.md R6). -/
def ltSigned (a b : Word) : Bool := a.toInt < b.toInt

/-- `<u`: unsigned less-than (00_scope.md R6). -/
def ltUnsigned (a b : Word) : Bool := a.toNat < b.toNat

/-- The value a set-less-than instruction writes: 1 or 0 (40_integer_computational.md R203). -/
def boolWord (c : Bool) : Word := if c then 1#32 else 0#32

/-- BEQ (41_control_transfer.md R244). -/
def condEq (a b : Word) : Bool := a == b

/-- BNE (R245). -/
def condNe (a b : Word) : Bool := a != b

/-- BLT (R246). -/
def condLt (a b : Word) : Bool := ltSigned a b

/-- BGE (R247). -/
def condGe (a b : Word) : Bool := !ltSigned a b

/-- BLTU (R248). -/
def condLtu (a b : Word) : Bool := ltUnsigned a b

/-- BGEU (R249). -/
def condGeu (a b : Word) : Bool := !ltUnsigned a b

end Sys2Proof.Machine
end

