-- ==== Sys2Proof/Machine/Control.lean ====
section
/-! DEFINITION. Control transfer (41_control_transfer.md): no delay slot (R240, R555); a target that is not four-byte
aligned raises InstructionAddressMisaligned on the jump or the taken branch itself (R243). -/

namespace Sys2Proof.Machine

/-- JAL (R241). -/
def execJal (rd : Reg) (off : BitVec 21) (s : State) : StepResult :=
  jumpAndLink s rd (s.pc + immJ off)

/-- JALR: the base is read before rd is written, so rd may be rs1 (R242). -/
def execJalr (rd rs1 : Reg) (imm : BitVec 12) (s : State) : StepResult :=
  jumpAndLink s rd (jalrTarget (readX s rs1) imm)

/-- BEQ (R244, R250). -/
def execBeq (rs1 rs2 : Reg) (off : BitVec 13) (s : State) : StepResult :=
  branchIf s (condEq (readX s rs1) (readX s rs2)) off

/-- BNE (R245, R250). -/
def execBne (rs1 rs2 : Reg) (off : BitVec 13) (s : State) : StepResult :=
  branchIf s (condNe (readX s rs1) (readX s rs2)) off

/-- BLT (R246, R250). -/
def execBlt (rs1 rs2 : Reg) (off : BitVec 13) (s : State) : StepResult :=
  branchIf s (condLt (readX s rs1) (readX s rs2)) off

/-- BGE (R247, R250). -/
def execBge (rs1 rs2 : Reg) (off : BitVec 13) (s : State) : StepResult :=
  branchIf s (condGe (readX s rs1) (readX s rs2)) off

/-- BLTU (R248, R250). -/
def execBltu (rs1 rs2 : Reg) (off : BitVec 13) (s : State) : StepResult :=
  branchIf s (condLtu (readX s rs1) (readX s rs2)) off

/-- BGEU (R249, R250). -/
def execBgeu (rs1 rs2 : Reg) (off : BitVec 13) (s : State) : StepResult :=
  branchIf s (condGeu (readX s rs1) (readX s rs2)) off

end Sys2Proof.Machine
end

