-- ==== Sys2Proof/Machine/CsrInstr.lean ====
section
/-! DEFINITION. The six CSR instructions (44_csr_counters.md R290 to R297), in the spec's general form: the check first,
then the read of the old value, then the write of the CSR, which takes effect after the instruction has retired (R297).
On this hardware every implemented CSR is read-only, so a form that writes raises IllegalInstruction (R302). -/

namespace Sys2Proof.Machine

/-- The write of a CSR and of rd, in the order of R297: instret has been incremented before a written value lands. -/
def csrComplete (s : State) (c : Csr) (rd : Reg) (readsOld : Bool) (written : Option Word) : StepResult :=
  let retired := retire (if readsOld then writeX s rd (csrRead s c) else s)
  match written with
  | none => .next retired
  | some v => .next (csrWrite retired c v)

/-- CSRRW (R291: it always writes; with rd = x0 it does not read). -/
def execCsrrw (rd : Reg) (csr : BitVec 12) (rs1 : Reg) (s : State) : StepResult :=
  match csrCheck csr true with
  | none => illegal (.csrrw rd csr rs1) s
  | some c => csrComplete s c rd (rd != 0#5) (some (readX s rs1))

/-- CSRRS (R292: it writes when the rs1 field is not x0). -/
def execCsrrs (rd : Reg) (csr : BitVec 12) (rs1 : Reg) (s : State) : StepResult :=
  match csrCheck csr (rs1 != 0#5) with
  | none => illegal (.csrrs rd csr rs1) s
  | some c => csrComplete s c rd true (if rs1 = 0#5 then none else some (csrRead s c ||| readX s rs1))

/-- CSRRC (R293: it writes when the rs1 field is not x0). -/
def execCsrrc (rd : Reg) (csr : BitVec 12) (rs1 : Reg) (s : State) : StepResult :=
  match csrCheck csr (rs1 != 0#5) with
  | none => illegal (.csrrc rd csr rs1) s
  | some c => csrComplete s c rd true (if rs1 = 0#5 then none else some (csrRead s c &&& ~~~(readX s rs1)))

/-- CSRRWI (R294: it always writes; with rd = x0 it does not read). -/
def execCsrrwi (rd : Reg) (csr : BitVec 12) (uimm : BitVec 5) (s : State) : StepResult :=
  match csrCheck csr true with
  | none => illegal (.csrrwi rd csr uimm) s
  | some c => csrComplete s c rd (rd != 0#5) (some (immZ uimm))

/-- CSRRSI (R295: it writes when uimm is not 0). -/
def execCsrrsi (rd : Reg) (csr : BitVec 12) (uimm : BitVec 5) (s : State) : StepResult :=
  match csrCheck csr (uimm != 0#5) with
  | none => illegal (.csrrsi rd csr uimm) s
  | some c => csrComplete s c rd true (if uimm = 0#5 then none else some (csrRead s c ||| immZ uimm))

/-- CSRRCI (R296: it writes when uimm is not 0). -/
def execCsrrci (rd : Reg) (csr : BitVec 12) (uimm : BitVec 5) (s : State) : StepResult :=
  match csrCheck csr (uimm != 0#5) with
  | none => illegal (.csrrci rd csr uimm) s
  | some c => csrComplete s c rd true (if uimm = 0#5 then none else some (csrRead s c &&& ~~~(immZ uimm)))

end Sys2Proof.Machine
end

