-- ==== Sys2Proof/Machine/Environment.lean ====
section
/-! DEFINITION. ECALL and EBREAK (45_environment.md). Each hands control to the execution environment by raising its
exception; it writes nothing and does not retire. -/

namespace Sys2Proof.Machine

/-- ECALL: EnvironmentCall, no recorded value (R320, 60_exceptions.md R501). -/
def execEcall (s : State) : StepResult :=
  raise s .environmentCall none

/-- EBREAK: Breakpoint, no recorded value (R321, 60_exceptions.md R501). -/
def execEbreak (s : State) : StepResult :=
  raise s .breakpoint none

end Sys2Proof.Machine
end

