-- ==== Sys2Proof/Machine/Fence.lean ====
section
/-! DEFINITION. FENCE and FENCE.I (43_fence.md). -/

namespace Sys2Proof.Machine

/-- FENCE: with one hart nothing is left to order, whatever `pred` and `succ` are; it retires (R280, log 23). -/
def execFence (_pred _succ : BitVec 4) (s : State) : StepResult :=
  .next (retire s)

/-- FENCE.I: empties `stale`, so that every later fetch sees the stores before it (R281). -/
def execFenceI (s : State) : StepResult :=
  .next (retire { s with stale := [] })

end Sys2Proof.Machine
end

