-- ==== Sys2Proof/Machine/FloatListed.lean ====
section
/-! DEFINITION. The F and D extensions, listed but not implemented: every word raises IllegalInstruction with
the word as recorded value and changes no state; there are no floating-point registers (49_fd_listed.md R410,
10_state.md R36). -/

namespace Sys2Proof.Machine

/-- FLW (R411). -/
def execFlw (rd : Reg) (rs1 : Reg) (imm : BitVec 12) (s : State) : StepResult :=
  illegal (.flw rd rs1 imm) s

/-- FSW (R412). -/
def execFsw (rs1 : Reg) (rs2 : Reg) (imm : BitVec 12) (s : State) : StepResult :=
  illegal (.fsw rs1 rs2 imm) s

/-- FMADD.S (R413). -/
def execFmaddS (rd : Reg) (rs1 : Reg) (rs2 : Reg) (rs3 : Reg) (rm : BitVec 3) (s : State) : StepResult :=
  illegal (.fmaddS rd rs1 rs2 rs3 rm) s

/-- FMSUB.S (R414). -/
def execFmsubS (rd : Reg) (rs1 : Reg) (rs2 : Reg) (rs3 : Reg) (rm : BitVec 3) (s : State) : StepResult :=
  illegal (.fmsubS rd rs1 rs2 rs3 rm) s

/-- FNMSUB.S (R415). -/
def execFnmsubS (rd : Reg) (rs1 : Reg) (rs2 : Reg) (rs3 : Reg) (rm : BitVec 3) (s : State) : StepResult :=
  illegal (.fnmsubS rd rs1 rs2 rs3 rm) s

/-- FNMADD.S (R416). -/
def execFnmaddS (rd : Reg) (rs1 : Reg) (rs2 : Reg) (rs3 : Reg) (rm : BitVec 3) (s : State) : StepResult :=
  illegal (.fnmaddS rd rs1 rs2 rs3 rm) s

/-- FADD.S (R417). -/
def execFaddS (rd : Reg) (rs1 : Reg) (rs2 : Reg) (rm : BitVec 3) (s : State) : StepResult :=
  illegal (.faddS rd rs1 rs2 rm) s

/-- FSUB.S (R418). -/
def execFsubS (rd : Reg) (rs1 : Reg) (rs2 : Reg) (rm : BitVec 3) (s : State) : StepResult :=
  illegal (.fsubS rd rs1 rs2 rm) s

/-- FMUL.S (R419). -/
def execFmulS (rd : Reg) (rs1 : Reg) (rs2 : Reg) (rm : BitVec 3) (s : State) : StepResult :=
  illegal (.fmulS rd rs1 rs2 rm) s

/-- FDIV.S (R420). -/
def execFdivS (rd : Reg) (rs1 : Reg) (rs2 : Reg) (rm : BitVec 3) (s : State) : StepResult :=
  illegal (.fdivS rd rs1 rs2 rm) s

/-- FSQRT.S (R421). -/
def execFsqrtS (rd : Reg) (rs1 : Reg) (rm : BitVec 3) (s : State) : StepResult :=
  illegal (.fsqrtS rd rs1 rm) s

/-- FSGNJ.S (R422). -/
def execFsgnjS (rd : Reg) (rs1 : Reg) (rs2 : Reg) (s : State) : StepResult :=
  illegal (.fsgnjS rd rs1 rs2) s

/-- FSGNJN.S (R423). -/
def execFsgnjnS (rd : Reg) (rs1 : Reg) (rs2 : Reg) (s : State) : StepResult :=
  illegal (.fsgnjnS rd rs1 rs2) s

/-- FSGNJX.S (R424). -/
def execFsgnjxS (rd : Reg) (rs1 : Reg) (rs2 : Reg) (s : State) : StepResult :=
  illegal (.fsgnjxS rd rs1 rs2) s

/-- FMIN.S (R425). -/
def execFminS (rd : Reg) (rs1 : Reg) (rs2 : Reg) (s : State) : StepResult :=
  illegal (.fminS rd rs1 rs2) s

/-- FMAX.S (R426). -/
def execFmaxS (rd : Reg) (rs1 : Reg) (rs2 : Reg) (s : State) : StepResult :=
  illegal (.fmaxS rd rs1 rs2) s

/-- FCVT.W.S (R427). -/
def execFcvtWS (rd : Reg) (rs1 : Reg) (rm : BitVec 3) (s : State) : StepResult :=
  illegal (.fcvtWS rd rs1 rm) s

/-- FCVT.WU.S (R428). -/
def execFcvtWuS (rd : Reg) (rs1 : Reg) (rm : BitVec 3) (s : State) : StepResult :=
  illegal (.fcvtWuS rd rs1 rm) s

/-- FMV.X.W (R429). -/
def execFmvXW (rd : Reg) (rs1 : Reg) (s : State) : StepResult :=
  illegal (.fmvXW rd rs1) s

/-- FEQ.S (R430). -/
def execFeqS (rd : Reg) (rs1 : Reg) (rs2 : Reg) (s : State) : StepResult :=
  illegal (.feqS rd rs1 rs2) s

/-- FLT.S (R431). -/
def execFltS (rd : Reg) (rs1 : Reg) (rs2 : Reg) (s : State) : StepResult :=
  illegal (.fltS rd rs1 rs2) s

/-- FLE.S (R432). -/
def execFleS (rd : Reg) (rs1 : Reg) (rs2 : Reg) (s : State) : StepResult :=
  illegal (.fleS rd rs1 rs2) s

/-- FCLASS.S (R433). -/
def execFclassS (rd : Reg) (rs1 : Reg) (s : State) : StepResult :=
  illegal (.fclassS rd rs1) s

/-- FCVT.S.W (R434). -/
def execFcvtSW (rd : Reg) (rs1 : Reg) (rm : BitVec 3) (s : State) : StepResult :=
  illegal (.fcvtSW rd rs1 rm) s

/-- FCVT.S.WU (R435). -/
def execFcvtSWu (rd : Reg) (rs1 : Reg) (rm : BitVec 3) (s : State) : StepResult :=
  illegal (.fcvtSWu rd rs1 rm) s

/-- FMV.W.X (R436). -/
def execFmvWX (rd : Reg) (rs1 : Reg) (s : State) : StepResult :=
  illegal (.fmvWX rd rs1) s

/-- FCVT.L.S (R437). -/
def execFcvtLS (rd : Reg) (rs1 : Reg) (rm : BitVec 3) (s : State) : StepResult :=
  illegal (.fcvtLS rd rs1 rm) s

/-- FCVT.LU.S (R438). -/
def execFcvtLuS (rd : Reg) (rs1 : Reg) (rm : BitVec 3) (s : State) : StepResult :=
  illegal (.fcvtLuS rd rs1 rm) s

/-- FCVT.S.L (R439). -/
def execFcvtSL (rd : Reg) (rs1 : Reg) (rm : BitVec 3) (s : State) : StepResult :=
  illegal (.fcvtSL rd rs1 rm) s

/-- FCVT.S.LU (R440). -/
def execFcvtSLu (rd : Reg) (rs1 : Reg) (rm : BitVec 3) (s : State) : StepResult :=
  illegal (.fcvtSLu rd rs1 rm) s

/-- FLD (R441). -/
def execFld (rd : Reg) (rs1 : Reg) (imm : BitVec 12) (s : State) : StepResult :=
  illegal (.fld rd rs1 imm) s

/-- FSD (R442). -/
def execFsd (rs1 : Reg) (rs2 : Reg) (imm : BitVec 12) (s : State) : StepResult :=
  illegal (.fsd rs1 rs2 imm) s

/-- FMADD.D (R443). -/
def execFmaddD (rd : Reg) (rs1 : Reg) (rs2 : Reg) (rs3 : Reg) (rm : BitVec 3) (s : State) : StepResult :=
  illegal (.fmaddD rd rs1 rs2 rs3 rm) s

/-- FMSUB.D (R444). -/
def execFmsubD (rd : Reg) (rs1 : Reg) (rs2 : Reg) (rs3 : Reg) (rm : BitVec 3) (s : State) : StepResult :=
  illegal (.fmsubD rd rs1 rs2 rs3 rm) s

/-- FNMSUB.D (R445). -/
def execFnmsubD (rd : Reg) (rs1 : Reg) (rs2 : Reg) (rs3 : Reg) (rm : BitVec 3) (s : State) : StepResult :=
  illegal (.fnmsubD rd rs1 rs2 rs3 rm) s

/-- FNMADD.D (R446). -/
def execFnmaddD (rd : Reg) (rs1 : Reg) (rs2 : Reg) (rs3 : Reg) (rm : BitVec 3) (s : State) : StepResult :=
  illegal (.fnmaddD rd rs1 rs2 rs3 rm) s

/-- FADD.D (R447). -/
def execFaddD (rd : Reg) (rs1 : Reg) (rs2 : Reg) (rm : BitVec 3) (s : State) : StepResult :=
  illegal (.faddD rd rs1 rs2 rm) s

/-- FSUB.D (R448). -/
def execFsubD (rd : Reg) (rs1 : Reg) (rs2 : Reg) (rm : BitVec 3) (s : State) : StepResult :=
  illegal (.fsubD rd rs1 rs2 rm) s

/-- FMUL.D (R449). -/
def execFmulD (rd : Reg) (rs1 : Reg) (rs2 : Reg) (rm : BitVec 3) (s : State) : StepResult :=
  illegal (.fmulD rd rs1 rs2 rm) s

/-- FDIV.D (R450). -/
def execFdivD (rd : Reg) (rs1 : Reg) (rs2 : Reg) (rm : BitVec 3) (s : State) : StepResult :=
  illegal (.fdivD rd rs1 rs2 rm) s

/-- FSQRT.D (R451). -/
def execFsqrtD (rd : Reg) (rs1 : Reg) (rm : BitVec 3) (s : State) : StepResult :=
  illegal (.fsqrtD rd rs1 rm) s

/-- FSGNJ.D (R452). -/
def execFsgnjD (rd : Reg) (rs1 : Reg) (rs2 : Reg) (s : State) : StepResult :=
  illegal (.fsgnjD rd rs1 rs2) s

/-- FSGNJN.D (R453). -/
def execFsgnjnD (rd : Reg) (rs1 : Reg) (rs2 : Reg) (s : State) : StepResult :=
  illegal (.fsgnjnD rd rs1 rs2) s

/-- FSGNJX.D (R454). -/
def execFsgnjxD (rd : Reg) (rs1 : Reg) (rs2 : Reg) (s : State) : StepResult :=
  illegal (.fsgnjxD rd rs1 rs2) s

/-- FMIN.D (R455). -/
def execFminD (rd : Reg) (rs1 : Reg) (rs2 : Reg) (s : State) : StepResult :=
  illegal (.fminD rd rs1 rs2) s

/-- FMAX.D (R456). -/
def execFmaxD (rd : Reg) (rs1 : Reg) (rs2 : Reg) (s : State) : StepResult :=
  illegal (.fmaxD rd rs1 rs2) s

/-- FCVT.S.D (R457). -/
def execFcvtSD (rd : Reg) (rs1 : Reg) (rm : BitVec 3) (s : State) : StepResult :=
  illegal (.fcvtSD rd rs1 rm) s

/-- FCVT.D.S (R458). -/
def execFcvtDS (rd : Reg) (rs1 : Reg) (rm : BitVec 3) (s : State) : StepResult :=
  illegal (.fcvtDS rd rs1 rm) s

/-- FEQ.D (R459). -/
def execFeqD (rd : Reg) (rs1 : Reg) (rs2 : Reg) (s : State) : StepResult :=
  illegal (.feqD rd rs1 rs2) s

/-- FLT.D (R460). -/
def execFltD (rd : Reg) (rs1 : Reg) (rs2 : Reg) (s : State) : StepResult :=
  illegal (.fltD rd rs1 rs2) s

/-- FLE.D (R461). -/
def execFleD (rd : Reg) (rs1 : Reg) (rs2 : Reg) (s : State) : StepResult :=
  illegal (.fleD rd rs1 rs2) s

/-- FCLASS.D (R462). -/
def execFclassD (rd : Reg) (rs1 : Reg) (s : State) : StepResult :=
  illegal (.fclassD rd rs1) s

/-- FCVT.W.D (R463). -/
def execFcvtWD (rd : Reg) (rs1 : Reg) (rm : BitVec 3) (s : State) : StepResult :=
  illegal (.fcvtWD rd rs1 rm) s

/-- FCVT.WU.D (R464). -/
def execFcvtWuD (rd : Reg) (rs1 : Reg) (rm : BitVec 3) (s : State) : StepResult :=
  illegal (.fcvtWuD rd rs1 rm) s

/-- FCVT.D.W (R465). -/
def execFcvtDW (rd : Reg) (rs1 : Reg) (rm : BitVec 3) (s : State) : StepResult :=
  illegal (.fcvtDW rd rs1 rm) s

/-- FCVT.D.WU (R466). -/
def execFcvtDWu (rd : Reg) (rs1 : Reg) (rm : BitVec 3) (s : State) : StepResult :=
  illegal (.fcvtDWu rd rs1 rm) s

/-- FCVT.L.D (R467). -/
def execFcvtLD (rd : Reg) (rs1 : Reg) (rm : BitVec 3) (s : State) : StepResult :=
  illegal (.fcvtLD rd rs1 rm) s

/-- FCVT.LU.D (R468). -/
def execFcvtLuD (rd : Reg) (rs1 : Reg) (rm : BitVec 3) (s : State) : StepResult :=
  illegal (.fcvtLuD rd rs1 rm) s

/-- FMV.X.D (R469). -/
def execFmvXD (rd : Reg) (rs1 : Reg) (s : State) : StepResult :=
  illegal (.fmvXD rd rs1) s

/-- FCVT.D.L (R470). -/
def execFcvtDL (rd : Reg) (rs1 : Reg) (rm : BitVec 3) (s : State) : StepResult :=
  illegal (.fcvtDL rd rs1 rm) s

/-- FCVT.D.LU (R471). -/
def execFcvtDLu (rd : Reg) (rs1 : Reg) (rm : BitVec 3) (s : State) : StepResult :=
  illegal (.fcvtDLu rd rs1 rm) s

/-- FMV.D.X (R472). -/
def execFmvDX (rd : Reg) (rs1 : Reg) (s : State) : StepResult :=
  illegal (.fmvDX rd rs1) s

end Sys2Proof.Machine
end

