-- ==== Sys2Proof/Machine/IntegerImm.lean ====
section
/-! DEFINITION. Register-immediate instructions, LUI and AUIPC (40_integer_computational.md, section 2). Each reads
its source, writes rd, goes on to pc + 4 and raises nothing of its own (R200); NOP is ADDI x0, x0, 0 (R223). -/

namespace Sys2Proof.Machine

/-- LUI: the U-immediate (R211). -/
def execLui (rd : Reg) (imm : BitVec 20) (s : State) : StepResult :=
  writeAndRetire s rd (immU imm)

/-- AUIPC: the U-immediate added to the address of the AUIPC (R212). -/
def execAuipc (rd : Reg) (imm : BitVec 20) (s : State) : StepResult :=
  writeAndRetire s rd (s.pc + immU imm)

/-- ADDI (R202). -/
def execAddi (rd rs1 : Reg) (imm : BitVec 12) (s : State) : StepResult :=
  writeAndRetire s rd (readX s rs1 + immI imm)

/-- SLTI (R203). -/
def execSlti (rd rs1 : Reg) (imm : BitVec 12) (s : State) : StepResult :=
  writeAndRetire s rd (boolWord (ltSigned (readX s rs1) (immI imm)))

/-- SLTIU: the immediate is sign-extended, then compared as unsigned (R204). -/
def execSltiu (rd rs1 : Reg) (imm : BitVec 12) (s : State) : StepResult :=
  writeAndRetire s rd (boolWord (ltUnsigned (readX s rs1) (immI imm)))

/-- XORI (R207). -/
def execXori (rd rs1 : Reg) (imm : BitVec 12) (s : State) : StepResult :=
  writeAndRetire s rd (readX s rs1 ^^^ immI imm)

/-- ORI (R206). -/
def execOri (rd rs1 : Reg) (imm : BitVec 12) (s : State) : StepResult :=
  writeAndRetire s rd (readX s rs1 ||| immI imm)

/-- ANDI (R205). -/
def execAndi (rd rs1 : Reg) (imm : BitVec 12) (s : State) : StepResult :=
  writeAndRetire s rd (readX s rs1 &&& immI imm)

/-- SLLI (R208). -/
def execSlli (rd rs1 : Reg) (shamt : BitVec 5) (s : State) : StepResult :=
  writeAndRetire s rd (readX s rs1 <<< shiftAmountImm shamt)

/-- SRLI (R209). -/
def execSrli (rd rs1 : Reg) (shamt : BitVec 5) (s : State) : StepResult :=
  writeAndRetire s rd (readX s rs1 >>> shiftAmountImm shamt)

/-- SRAI (R210). -/
def execSrai (rd rs1 : Reg) (shamt : BitVec 5) (s : State) : StepResult :=
  writeAndRetire s rd ((readX s rs1).sshiftRight (shiftAmountImm shamt))

end Sys2Proof.Machine
end

