-- ==== Sys2Proof/Machine/IntegerReg.lean ====
section
/-! DEFINITION. Register-register instructions (40_integer_computational.md, section 3). Each reads both sources before
it writes rd, goes on to pc + 4 and raises nothing of its own (R200). -/

namespace Sys2Proof.Machine

/-- ADD (R213). -/
def execAdd (rd rs1 rs2 : Reg) (s : State) : StepResult :=
  writeAndRetire s rd (readX s rs1 + readX s rs2)

/-- SUB (R214). -/
def execSub (rd rs1 rs2 : Reg) (s : State) : StepResult :=
  writeAndRetire s rd (readX s rs1 - readX s rs2)

/-- SLL: the low five bits of x[rs2] are the amount (R220). -/
def execSll (rd rs1 rs2 : Reg) (s : State) : StepResult :=
  writeAndRetire s rd (readX s rs1 <<< shiftAmountReg (readX s rs2))

/-- SLT (R215). -/
def execSlt (rd rs1 rs2 : Reg) (s : State) : StepResult :=
  writeAndRetire s rd (boolWord (ltSigned (readX s rs1) (readX s rs2)))

/-- SLTU (R216). -/
def execSltu (rd rs1 rs2 : Reg) (s : State) : StepResult :=
  writeAndRetire s rd (boolWord (ltUnsigned (readX s rs1) (readX s rs2)))

/-- XOR (R219). -/
def execXor (rd rs1 rs2 : Reg) (s : State) : StepResult :=
  writeAndRetire s rd (readX s rs1 ^^^ readX s rs2)

/-- SRL: the amount as SLL (R221). -/
def execSrl (rd rs1 rs2 : Reg) (s : State) : StepResult :=
  writeAndRetire s rd (readX s rs1 >>> shiftAmountReg (readX s rs2))

/-- SRA: the amount as SLL (R222). -/
def execSra (rd rs1 rs2 : Reg) (s : State) : StepResult :=
  writeAndRetire s rd ((readX s rs1).sshiftRight (shiftAmountReg (readX s rs2)))

/-- OR (R218). -/
def execOr (rd rs1 rs2 : Reg) (s : State) : StepResult :=
  writeAndRetire s rd (readX s rs1 ||| readX s rs2)

/-- AND (R217). -/
def execAnd (rd rs1 rs2 : Reg) (s : State) : StepResult :=
  writeAndRetire s rd (readX s rs1 &&& readX s rs2)

end Sys2Proof.Machine
end

