-- ==== Sys2Proof/Machine/LoadStore.lean ====
section
/-! DEFINITION. Loads and stores (42_load_store.md). The effective address is x[rs1] plus the sign-extended offset,
modulo 2^32 (R260). -/

namespace Sys2Proof.Machine

/-- LB (R261). -/
def execLb (rd rs1 : Reg) (imm : BitVec 12) (s : State) : StepResult :=
  loadTo s rd (loadAddress s rs1 imm) 1 ((byteAt s (loadAddress s rs1 imm)).signExtend 32)

/-- LH (R262). -/
def execLh (rd rs1 : Reg) (imm : BitVec 12) (s : State) : StepResult :=
  loadTo s rd (loadAddress s rs1 imm) 2 ((mem16 s (loadAddress s rs1 imm)).signExtend 32)

/-- LW (R263). -/
def execLw (rd rs1 : Reg) (imm : BitVec 12) (s : State) : StepResult :=
  loadTo s rd (loadAddress s rs1 imm) 4 (mem32 s (loadAddress s rs1 imm))

/-- LBU (R264). -/
def execLbu (rd rs1 : Reg) (imm : BitVec 12) (s : State) : StepResult :=
  loadTo s rd (loadAddress s rs1 imm) 1 ((byteAt s (loadAddress s rs1 imm)).setWidth 32)

/-- LHU (R265). -/
def execLhu (rd rs1 : Reg) (imm : BitVec 12) (s : State) : StepResult :=
  loadTo s rd (loadAddress s rs1 imm) 2 ((mem16 s (loadAddress s rs1 imm)).setWidth 32)

/-- SB: stores x[rs2][7:0] (R266). -/
def execSb (rs1 rs2 : Reg) (imm : BitVec 12) (s : State) : StepResult :=
  storeFrom s (storeAddress s rs1 imm) 1 (readX s rs2)

/-- SH: stores x[rs2][15:0] (R267). -/
def execSh (rs1 rs2 : Reg) (imm : BitVec 12) (s : State) : StepResult :=
  storeFrom s (storeAddress s rs1 imm) 2 (readX s rs2)

/-- SW: stores x[rs2] (R268). -/
def execSw (rs1 rs2 : Reg) (imm : BitVec 12) (s : State) : StepResult :=
  storeFrom s (storeAddress s rs1 imm) 4 (readX s rs2)

end Sys2Proof.Machine
end

