-- ==== Sys2Proof/Machine/MulDiv.lean ====
section
/-! DEFINITION. RV32M (46_m_extension.md R330 to R339), and the results the spec records for the five RV64M W-forms
(R341 to R345), which this hardware does not execute: XLEN = 32. -/

namespace Sys2Proof.Machine

/-- The low 32 bits of the 64-bit product (R331). -/
def mulLow (a b : Word) : Word := (a.setWidth 64 * b.setWidth 64).extractLsb' 0 32

/-- The high 32 bits of an exact product, as a 64-bit two's complement number (R332, R333). -/
def highHalf (p : Int) : Word := (BitVec.ofInt 64 p).extractLsb' 32 32

/-- signed × signed (R332). -/
def mulHighSS (a b : Word) : Word := highHalf (a.toInt * b.toInt)

/-- signed × unsigned: rs1 is the signed operand (R333, decision D22; log 21). -/
def mulHighSU (a b : Word) : Word := highHalf (a.toInt * (b.toNat : Int))

/-- unsigned × unsigned (R334). -/
def mulHighUU (a b : Word) : Word := highHalf ((a.toNat : Int) * (b.toNat : Int))

/-- Signed quotient: Table 6.1, otherwise rounded toward zero (R335, R339; log 22). -/
def divSigned (a b : Word) : Word :=
  if b.toInt = 0 then 0xFFFFFFFF#32
  else if a.toInt = -2147483648 ∧ b.toInt = -1 then 0x80000000#32
  else BitVec.ofInt 32 (a.toInt.tdiv b.toInt)

/-- Unsigned quotient (R336, R339). -/
def divUnsigned (a b : Word) : Word :=
  if b.toNat = 0 then 0xFFFFFFFF#32 else BitVec.ofNat 32 (a.toNat / b.toNat)

/-- Signed remainder: Table 6.1, otherwise `n - d * trunc(n / d)` (R337, R339; log 22). -/
def remSigned (a b : Word) : Word :=
  if b.toInt = 0 then a
  else if a.toInt = -2147483648 ∧ b.toInt = -1 then 0#32
  else BitVec.ofInt 32 (a.toInt - b.toInt * a.toInt.tdiv b.toInt)

/-- Unsigned remainder (R338, R339). -/
def remUnsigned (a b : Word) : Word :=
  if b.toNat = 0 then a else BitVec.ofNat 32 (a.toNat % b.toNat)

/-- MUL (R331). -/
def execMul (rd rs1 rs2 : Reg) (s : State) : StepResult :=
  writeAndRetire s rd (mulLow (readX s rs1) (readX s rs2))

/-- MULH (R332). -/
def execMulh (rd rs1 rs2 : Reg) (s : State) : StepResult :=
  writeAndRetire s rd (mulHighSS (readX s rs1) (readX s rs2))

/-- MULHSU (R333). -/
def execMulhsu (rd rs1 rs2 : Reg) (s : State) : StepResult :=
  writeAndRetire s rd (mulHighSU (readX s rs1) (readX s rs2))

/-- MULHU (R334). -/
def execMulhu (rd rs1 rs2 : Reg) (s : State) : StepResult :=
  writeAndRetire s rd (mulHighUU (readX s rs1) (readX s rs2))

/-- DIV (R335). -/
def execDiv (rd rs1 rs2 : Reg) (s : State) : StepResult :=
  writeAndRetire s rd (divSigned (readX s rs1) (readX s rs2))

/-- DIVU (R336). -/
def execDivu (rd rs1 rs2 : Reg) (s : State) : StepResult :=
  writeAndRetire s rd (divUnsigned (readX s rs1) (readX s rs2))

/-- REM (R337). -/
def execRem (rd rs1 rs2 : Reg) (s : State) : StepResult :=
  writeAndRetire s rd (remSigned (readX s rs1) (readX s rs2))

/-- REMU (R338). -/
def execRemu (rd rs1 rs2 : Reg) (s : State) : StepResult :=
  writeAndRetire s rd (remUnsigned (readX s rs1) (readX s rs2))

/-! ### RV64M results, XLEN = 64: recorded, not executable here (R341 to R345; log 26) -/

/-- A W-form: a 32-bit operation on the low halves, its result sign-extended to 64 bits. -/
def wForm (op : Word → Word → Word) (a b : BitVec 64) : BitVec 64 :=
  (op (a.extractLsb' 0 32) (b.extractLsb' 0 32)).signExtend 64

/-- MULW (R341). -/
def mulwResult (a b : BitVec 64) : BitVec 64 := wForm mulLow a b

/-- DIVW (R342). -/
def divwResult (a b : BitVec 64) : BitVec 64 := wForm divSigned a b

/-- DIVUW: the quotient is sign-extended (R343). -/
def divuwResult (a b : BitVec 64) : BitVec 64 := wForm divUnsigned a b

/-- REMW (R344). -/
def remwResult (a b : BitVec 64) : BitVec 64 := wForm remSigned a b

/-- REMUW: sign-extended, also on a divide by zero (R345). -/
def remuwResult (a b : BitVec 64) : BitVec 64 := wForm remUnsigned a b

end Sys2Proof.Machine
end

