-- ==== Sys2Proof/Machine/Rv64Listed.lean ====
section
/-! DEFINITION. RV64I and RV64M, listed but not implemented: XLEN = 32. Every word raises IllegalInstruction
with the word as recorded value and changes no state (47_rv64i_listed.md R360, 46_m_extension.md section 4), apart from the
three shift forms with shamt[5] = 0, which are the RV32I shifts. -/

namespace Sys2Proof.Machine

/-- LWU (R361). -/
def execLwu (rd : Reg) (rs1 : Reg) (imm : BitVec 12) (s : State) : StepResult :=
  illegal (.lwu rd rs1 imm) s

/-- LD (R362). -/
def execLd (rd : Reg) (rs1 : Reg) (imm : BitVec 12) (s : State) : StepResult :=
  illegal (.ld rd rs1 imm) s

/-- SD (R363). -/
def execSd (rs1 : Reg) (rs2 : Reg) (imm : BitVec 12) (s : State) : StepResult :=
  illegal (.sd rs1 rs2 imm) s

/-- SLLI of RV64I (R364): with shamt[5] = 1 an illegal instruction; with shamt[5] = 0 the word is the RV32I
instruction and executes by its rule. -/
def execSlliRv64 (rd : Reg) (rs1 : Reg) (shamt : BitVec 6) (s : State) : StepResult :=
  if shamt.getLsbD 5 then illegal (.slliRv64 rd rs1 shamt) s
  else writeAndRetire s rd (readX s rs1 <<< shiftAmountImm (shamt.setWidth 5))

/-- SRLI of RV64I (R365): with shamt[5] = 1 an illegal instruction; with shamt[5] = 0 the word is the RV32I
instruction and executes by its rule. -/
def execSrliRv64 (rd : Reg) (rs1 : Reg) (shamt : BitVec 6) (s : State) : StepResult :=
  if shamt.getLsbD 5 then illegal (.srliRv64 rd rs1 shamt) s
  else writeAndRetire s rd (readX s rs1 >>> shiftAmountImm (shamt.setWidth 5))

/-- SRAI of RV64I (R366): with shamt[5] = 1 an illegal instruction; with shamt[5] = 0 the word is the RV32I
instruction and executes by its rule. -/
def execSraiRv64 (rd : Reg) (rs1 : Reg) (shamt : BitVec 6) (s : State) : StepResult :=
  if shamt.getLsbD 5 then illegal (.sraiRv64 rd rs1 shamt) s
  else writeAndRetire s rd ((readX s rs1).sshiftRight (shiftAmountImm (shamt.setWidth 5)))

/-- ADDIW (R367). -/
def execAddiw (rd : Reg) (rs1 : Reg) (imm : BitVec 12) (s : State) : StepResult :=
  illegal (.addiw rd rs1 imm) s

/-- SLLIW (R368). -/
def execSlliw (rd : Reg) (rs1 : Reg) (shamt : BitVec 5) (s : State) : StepResult :=
  illegal (.slliw rd rs1 shamt) s

/-- SRLIW (R369). -/
def execSrliw (rd : Reg) (rs1 : Reg) (shamt : BitVec 5) (s : State) : StepResult :=
  illegal (.srliw rd rs1 shamt) s

/-- SRAIW (R370). -/
def execSraiw (rd : Reg) (rs1 : Reg) (shamt : BitVec 5) (s : State) : StepResult :=
  illegal (.sraiw rd rs1 shamt) s

/-- ADDW (R371). -/
def execAddw (rd : Reg) (rs1 : Reg) (rs2 : Reg) (s : State) : StepResult :=
  illegal (.addw rd rs1 rs2) s

/-- SUBW (R372). -/
def execSubw (rd : Reg) (rs1 : Reg) (rs2 : Reg) (s : State) : StepResult :=
  illegal (.subw rd rs1 rs2) s

/-- SLLW (R373). -/
def execSllw (rd : Reg) (rs1 : Reg) (rs2 : Reg) (s : State) : StepResult :=
  illegal (.sllw rd rs1 rs2) s

/-- SRLW (R374). -/
def execSrlw (rd : Reg) (rs1 : Reg) (rs2 : Reg) (s : State) : StepResult :=
  illegal (.srlw rd rs1 rs2) s

/-- SRAW (R375). -/
def execSraw (rd : Reg) (rs1 : Reg) (rs2 : Reg) (s : State) : StepResult :=
  illegal (.sraw rd rs1 rs2) s

/-- MULW (R341). -/
def execMulw (rd : Reg) (rs1 : Reg) (rs2 : Reg) (s : State) : StepResult :=
  illegal (.mulw rd rs1 rs2) s

/-- DIVW (R342). -/
def execDivw (rd : Reg) (rs1 : Reg) (rs2 : Reg) (s : State) : StepResult :=
  illegal (.divw rd rs1 rs2) s

/-- DIVUW (R343). -/
def execDivuw (rd : Reg) (rs1 : Reg) (rs2 : Reg) (s : State) : StepResult :=
  illegal (.divuw rd rs1 rs2) s

/-- REMW (R344). -/
def execRemw (rd : Reg) (rs1 : Reg) (rs2 : Reg) (s : State) : StepResult :=
  illegal (.remw rd rs1 rs2) s

/-- REMUW (R345). -/
def execRemuw (rd : Reg) (rs1 : Reg) (rs2 : Reg) (s : State) : StepResult :=
  illegal (.remuw rd rs1 rs2) s

end Sys2Proof.Machine
end

