-- ==== Sys2Proof/Machine/Step.lean ====
section
/-! DEFINITION. One step of the hart (10_state.md R39) and what follows a trap (60_exceptions.md R510). -/

namespace Sys2Proof.Machine

/-- The parameter `EnvService`: from a trap outcome to a state from which stepping continues, or the end of the run
(60_exceptions.md R510, 00_scope.md R4 P13). -/
abbrev EnvService := TrapRecord → State → Option State

/-- The default `EnvService`: the end of the run (R510). -/
def EnvService.endOfRun : EnvService := fun _ _ => none

/-- Execute a fetched word: decode (R39 clause 3), then the instruction's own rule. -/
def runWord (w : Word) (s : State) : StepResult :=
  match decode w with
  | .ok i => exec i s
  | .error .reservedFence => .refused (.reservedFence w)
  | .error .illegal => raise s .illegalInstruction (some w)
  | .error .truncated => raise s .illegalInstruction (some w)

/-- The counters advance between this step and the next (R39 clause 6). -/
def afterStep : StepResult → StepResult
  | .next s => .next (betweenSteps s)
  | .fault r => .fault r
  | .refused r => .refused r

/-- One instruction of a running hart (R39 clauses 1 to 6). A pc that no run reaches and a stale fetch are refused
(log 16, log 14). -/
def runInstruction (s : State) : StepResult :=
  if s.pc.extractLsb' 0 2 = 0#2 then
    match fetch s with
    | .accessFault => afterStep (raise s .instructionAccessFault (some s.pc))
    | .stale => .refused (.staleFetch s.pc)
    | .word w => afterStep (runWord w s)
  else .refused (.unalignedPc s.pc)

/-- One step under an environment: a pending trap is answered by it, otherwise one instruction is executed. -/
def stepEnv (env : EnvService) (s : State) : StepResult :=
  match s.trap with
  | none => runInstruction s
  | some r =>
    match env r s with
    | none => .fault (.endOfRun r)
    | some reply => .next (resume reply)

/-- One step, under the default environment. -/
def step (s : State) : Host.Outcome State Fault Refusal := stepEnv EnvService.endOfRun s

/-- The state with an instruction word loaded where the next step fetches (70_reset_and_hazards.md R553; log 17). -/
def State.withFetchWord (s : State) (nbits w : Nat) : State :=
  placeFetchWord s (BitVec.ofNat 32 (w % 2 ^ nbits))

end Sys2Proof.Machine
end

