-- ==== Sys2Proof/Machine/Pseudo.lean ====
section
/-! DEFINITION. What the assembler knows (31_assembler.md, 10_state.md R23): register and CSR names, and the
expansions of the pseudo-instructions of Tables 20.2 and 20.3. Nothing here is hardware: no instruction's meaning reads
this file (log 28). -/

namespace Sys2Proof.Machine

/-! ### Names (10_state.md R23, R29; 31_assembler.md R150) -/

/-- The ABI names of x0 to x31, in order (R23). -/
def abiNames : List String :=
  ["zero", "ra", "sp", "gp", "tp", "t0", "t1", "t2", "s0", "s1", "a0", "a1", "a2", "a3", "a4", "a5"] ++
  ["a6", "a7", "s2", "s3", "s4", "s5", "s6", "s7", "s8", "s9", "s10", "s11", "t3", "t4", "t5", "t6"]

/-- The architectural names of x0 to x31, in order (R150). -/
def archNames : List String :=
  ["x0", "x1", "x2", "x3", "x4", "x5", "x6", "x7", "x8", "x9", "x10", "x11", "x12", "x13", "x14", "x15"] ++
  ["x16", "x17", "x18", "x19", "x20", "x21", "x22", "x23", "x24", "x25", "x26", "x27", "x28", "x29", "x30", "x31"]

/-- The ABI name of a register (R23). -/
def abiName (r : Reg) : String := abiNames.getD r.toNat ""

/-- The position of a name in a list of names. -/
def nameIndex (name : String) : List String → Nat → Option Nat
  | [], _ => none
  | n :: rest, k => if n = name then some k else nameIndex name rest (k + 1)

/-- The register a name denotes: both spellings, and fp for s0 (R150). -/
def regOfName (name : String) : Option Reg :=
  match nameIndex name archNames 0 with
  | some k => some (BitVec.ofNat 5 k)
  | none =>
    match nameIndex name abiNames 0 with
    | some k => some (BitVec.ofNat 5 k)
    | none => if name = "fp" then some 8#5 else none

/-- Who saves a register in the standard calling convention (R23, 31_assembler.md R159). -/
inductive Saver where
  | caller
  | callee
  | nobody
  deriving DecidableEq, Repr

/-- The "saver" column of Table 20.1 for x0 to x31, in order (R23). -/
def savers : List Saver :=
  [ .nobody, .caller, .callee, .nobody, .nobody, .caller, .caller, .caller
  , .callee, .callee, .caller, .caller, .caller, .caller, .caller, .caller
  , .caller, .caller, .callee, .callee, .callee, .callee, .callee, .callee
  , .callee, .callee, .callee, .callee, .caller, .caller, .caller, .caller ]

/-- The saver of a register (R23). -/
def saverOf (r : Reg) : Saver := savers.getD r.toNat .nobody

/-- Access to a CSR in Table 19.3 (R29). -/
inductive CsrAccess where
  | readWrite
  | readOnly
  deriving DecidableEq, Repr

/-- A row of Table 19.3 (R29). -/
structure CsrRow where
  number : BitVec 12
  access : CsrAccess
  name : String
  deriving DecidableEq, Repr

/-- Table 19.3, complete (R29). The first three are absent on this hardware (R34). -/
def csrTable : List CsrRow :=
  [ ⟨0x001#12, .readWrite, "fflags"⟩
  , ⟨0x002#12, .readWrite, "frm"⟩
  , ⟨0x003#12, .readWrite, "fcsr"⟩
  , ⟨0xC00#12, .readOnly, "cycle"⟩
  , ⟨0xC01#12, .readOnly, "time"⟩
  , ⟨0xC02#12, .readOnly, "instret"⟩
  , ⟨0xC80#12, .readOnly, "cycleh"⟩
  , ⟨0xC81#12, .readOnly, "timeh"⟩
  , ⟨0xC82#12, .readOnly, "instreth"⟩ ]

/-! ### Splitting a 32-bit value between an upper and a lower immediate (31_assembler.md R157) -/

/-- `hi20 = (d + 0x800)[31:12]`. -/
def hi20 (d : Word) : BitVec 20 := (d + 0x800#32).extractLsb' 12 20

/-- `lo = d[11:0]`, read as signed by the second instruction. -/
def lo12 (d : Word) : BitVec 12 := d.extractLsb' 0 12

/-! ### Pseudo-instructions (31_assembler.md R153 to R155, R158; 44_csr_counters.md R298 to R300) -/

/-- The width letter of "load global" and "store global". -/
inductive GlobalWidth where
  | b
  | h
  | w
  | d
  deriving DecidableEq, Repr

/-- The width letter of the floating-point forms. -/
inductive FloatWidth where
  | w
  | d
  deriving DecidableEq, Repr

/-- The pseudo-instructions of Tables 20.2 and 20.3, and the former names of ECALL and EBREAK (45_environment.md R322).
A `symbol` or far `offset` operand is the 32-bit displacement `d` from the AUIPC to its target (R157). -/
inductive Pseudo where
  | la (rd : Reg) (d : Word)
  | loadGlobal (width : GlobalWidth) (rd : Reg) (d : Word)
  | storeGlobal (width : GlobalWidth) (rd : Reg) (d : Word) (rt : Reg)
  | floatLoadGlobal (width : FloatWidth) (rd : Reg) (d : Word) (rt : Reg)
  | floatStoreGlobal (width : FloatWidth) (rd : Reg) (d : Word) (rt : Reg)
  | nop
  | li (rd : Reg) (value : Word)
  | mv (rd rs : Reg)
  | not (rd rs : Reg)
  | neg (rd rs : Reg)
  | negw (rd rs : Reg)
  | sextW (rd rs : Reg)
  | seqz (rd rs : Reg)
  | snez (rd rs : Reg)
  | sltz (rd rs : Reg)
  | sgtz (rd rs : Reg)
  | fmvS (rd rs : Reg)
  | fabsS (rd rs : Reg)
  | fnegS (rd rs : Reg)
  | fmvD (rd rs : Reg)
  | fabsD (rd rs : Reg)
  | fnegD (rd rs : Reg)
  | beqz (rs : Reg) (off : BitVec 13)
  | bnez (rs : Reg) (off : BitVec 13)
  | blez (rs : Reg) (off : BitVec 13)
  | bgez (rs : Reg) (off : BitVec 13)
  | bltz (rs : Reg) (off : BitVec 13)
  | bgtz (rs : Reg) (off : BitVec 13)
  | bgt (rs rt : Reg) (off : BitVec 13)
  | ble (rs rt : Reg) (off : BitVec 13)
  | bgtu (rs rt : Reg) (off : BitVec 13)
  | bleu (rs rt : Reg) (off : BitVec 13)
  | j (off : BitVec 21)
  | jal (off : BitVec 21)
  | jr (rs : Reg)
  | jalr (rs : Reg)
  | ret
  | call (d : Word)
  | tail (d : Word)
  | fence
  | rdinstret (rd : Reg)
  | rdinstreth (rd : Reg)
  | rdcycle (rd : Reg)
  | rdcycleh (rd : Reg)
  | rdtime (rd : Reg)
  | rdtimeh (rd : Reg)
  | csrr (rd : Reg) (csr : BitVec 12)
  | csrw (csr : BitVec 12) (rs : Reg)
  | csrs (csr : BitVec 12) (rs : Reg)
  | csrc (csr : BitVec 12) (rs : Reg)
  | csrwi (csr : BitVec 12) (imm : BitVec 5)
  | csrsi (csr : BitVec 12) (imm : BitVec 5)
  | csrci (csr : BitVec 12) (imm : BitVec 5)
  | frcsr (rd : Reg)
  | fscsr (rd rs : Reg)
  | fscsrWrite (rs : Reg)
  | frfm (rd : Reg)
  | fsrm (rd rs : Reg)
  | fsrmWrite (rs : Reg)
  | fsrmi (rd : Reg) (imm : BitVec 5)
  | fsrmiWrite (imm : BitVec 5)
  | frflags (rd : Reg)
  | fsflags (rd rs : Reg)
  | fsflagsWrite (rs : Reg)
  | fsflagsi (rd : Reg) (imm : BitVec 5)
  | fsflagsiWrite (imm : BitVec 5)
  | scall
  | sbreak
  deriving DecidableEq, Repr

/-- The load a "load global" ends in (R153). -/
def globalLoad (width : GlobalWidth) (rd rs1 : Reg) (imm : BitVec 12) : Instr :=
  match width with
  | .b => .lb rd rs1 imm
  | .h => .lh rd rs1 imm
  | .w => .lw rd rs1 imm
  | .d => .ld rd rs1 imm

/-- The store a "store global" ends in (R153). -/
def globalStore (width : GlobalWidth) (rs1 rs2 : Reg) (imm : BitVec 12) : Instr :=
  match width with
  | .b => .sb rs1 rs2 imm
  | .h => .sh rs1 rs2 imm
  | .w => .sw rs1 rs2 imm
  | .d => .sd rs1 rs2 imm

/-- `li` for RV32: ADDI alone when the value fits, otherwise LUI, and ADDI when the low part is not 0 (R158). -/
def expandLi (rd : Reg) (value : Word) : List Instr :=
  if (lo12 value).signExtend 32 = value then [.addi rd 0#5 (lo12 value)]
  else if lo12 value = 0#12 then [.lui rd (hi20 value)]
  else [.lui rd (hi20 value), .addi rd rd (lo12 value)]

/-- The base instructions a pseudo-instruction stands for (R153 to R155). -/
def expandPseudo : Pseudo → List Instr
  | .la rd d => [.auipc rd (hi20 d), .addi rd rd (lo12 d)]
  | .loadGlobal width rd d => [.auipc rd (hi20 d), globalLoad width rd rd (lo12 d)]
  | .storeGlobal width rd d rt => [.auipc rt (hi20 d), globalStore width rt rd (lo12 d)]
  | .floatLoadGlobal .w rd d rt => [.auipc rt (hi20 d), .flw rd rt (lo12 d)]
  | .floatLoadGlobal .d rd d rt => [.auipc rt (hi20 d), .fld rd rt (lo12 d)]
  | .floatStoreGlobal .w rd d rt => [.auipc rt (hi20 d), .fsw rt rd (lo12 d)]
  | .floatStoreGlobal .d rd d rt => [.auipc rt (hi20 d), .fsd rt rd (lo12 d)]
  | .nop => [.addi 0#5 0#5 0#12]
  | .li rd value => expandLi rd value
  | .mv rd rs => [.addi rd rs 0#12]
  | .not rd rs => [.xori rd rs 0xFFF#12]
  | .neg rd rs => [.sub rd 0#5 rs]
  | .negw rd rs => [.subw rd 0#5 rs]
  | .sextW rd rs => [.addiw rd rs 0#12]
  | .seqz rd rs => [.sltiu rd rs 1#12]
  | .snez rd rs => [.sltu rd 0#5 rs]
  | .sltz rd rs => [.slt rd rs 0#5]
  | .sgtz rd rs => [.slt rd 0#5 rs]
  | .fmvS rd rs => [.fsgnjS rd rs rs]
  | .fabsS rd rs => [.fsgnjxS rd rs rs]
  | .fnegS rd rs => [.fsgnjnS rd rs rs]
  | .fmvD rd rs => [.fsgnjD rd rs rs]
  | .fabsD rd rs => [.fsgnjxD rd rs rs]
  | .fnegD rd rs => [.fsgnjnD rd rs rs]
  | .beqz rs off => [.beq rs 0#5 off]
  | .bnez rs off => [.bne rs 0#5 off]
  | .blez rs off => [.bge 0#5 rs off]
  | .bgez rs off => [.bge rs 0#5 off]
  | .bltz rs off => [.blt rs 0#5 off]
  | .bgtz rs off => [.blt 0#5 rs off]
  | .bgt rs rt off => [.blt rt rs off]
  | .ble rs rt off => [.bge rt rs off]
  | .bgtu rs rt off => [.bltu rt rs off]
  | .bleu rs rt off => [.bgeu rt rs off]
  | .j off => [.jal 0#5 off]
  | .jal off => [.jal 1#5 off]
  | .jr rs => [.jalr 0#5 rs 0#12]
  | .jalr rs => [.jalr 1#5 rs 0#12]
  | .ret => [.jalr 0#5 1#5 0#12]
  | .call d => [.auipc 6#5 (hi20 d), .jalr 1#5 6#5 (lo12 d)]
  | .tail d => [.auipc 6#5 (hi20 d), .jalr 0#5 6#5 (lo12 d)]
  | .fence => [.fence 0b1111#4 0b1111#4]
  | .rdinstret rd => [.csrrs rd 0xC02#12 0#5]
  | .rdinstreth rd => [.csrrs rd 0xC82#12 0#5]
  | .rdcycle rd => [.csrrs rd 0xC00#12 0#5]
  | .rdcycleh rd => [.csrrs rd 0xC80#12 0#5]
  | .rdtime rd => [.csrrs rd 0xC01#12 0#5]
  | .rdtimeh rd => [.csrrs rd 0xC81#12 0#5]
  | .csrr rd csr => [.csrrs rd csr 0#5]
  | .csrw csr rs => [.csrrw 0#5 csr rs]
  | .csrs csr rs => [.csrrs 0#5 csr rs]
  | .csrc csr rs => [.csrrc 0#5 csr rs]
  | .csrwi csr imm => [.csrrwi 0#5 csr imm]
  | .csrsi csr imm => [.csrrsi 0#5 csr imm]
  | .csrci csr imm => [.csrrci 0#5 csr imm]
  | .frcsr rd => [.csrrs rd 0x003#12 0#5]
  | .fscsr rd rs => [.csrrw rd 0x003#12 rs]
  | .fscsrWrite rs => [.csrrw 0#5 0x003#12 rs]
  | .frfm rd => [.csrrs rd 0x002#12 0#5]
  | .fsrm rd rs => [.csrrw rd 0x002#12 rs]
  | .fsrmWrite rs => [.csrrw 0#5 0x002#12 rs]
  | .fsrmi rd imm => [.csrrwi rd 0x002#12 imm]
  | .fsrmiWrite imm => [.csrrwi 0#5 0x002#12 imm]
  | .frflags rd => [.csrrs rd 0x001#12 0#5]
  | .fsflags rd rs => [.csrrw rd 0x001#12 rs]
  | .fsflagsWrite rs => [.csrrw 0#5 0x001#12 rs]
  | .fsflagsi rd imm => [.csrrwi rd 0x001#12 imm]
  | .fsflagsiWrite imm => [.csrrwi 0#5 0x001#12 imm]
  | .scall => [.ecall]
  | .sbreak => [.ebreak]

/-! ### Sequences the spec recommends (40_integer_computational.md R224, 46_m_extension.md R340) -/

/-- Overflow check of an unsigned addition of t1 and t2 (R224); `off` is the branch's own offset. -/
def overflowUnsignedAdd (off : BitVec 13) : List Instr := [.add 5#5 6#5 7#5, .bltu 5#5 6#5 off]

/-- Overflow check of a signed addition of t1 and a positive immediate (R224). -/
def overflowAddImmediate (imm : BitVec 12) (off : BitVec 13) : List Instr := [.addi 5#5 6#5 imm, .blt 5#5 6#5 off]

/-- Overflow check of a signed addition of t1 and t2 (R224). -/
def overflowSignedAdd (off : BitVec 13) : List Instr :=
  [.add 5#5 6#5 7#5, .slti 28#5 7#5 0#12, .slt 29#5 5#5 6#5, .bne 28#5 29#5 off]

/-- Both halves of a signed product; rdh must be neither rs1 nor rs2 (R340). -/
def productPair (rdh rdl rs1 rs2 : Reg) : List Instr := [.mulh rdh rs1 rs2, .mul rdl rs1 rs2]

/-- Quotient and remainder of a signed division; rdq must be neither rs1 nor rs2 (R340). -/
def divisionPair (rdq rdr rs1 rs2 : Reg) : List Instr := [.div rdq rs1 rs2, .rem rdr rs1 rs2]

end Sys2Proof.Machine
end

