-- ==== Sys2Proof/Safety.lean ====
section
/-! DEFINITION. The invariant of the hart and what counts as a run that goes well, in the terms the statements use. -/

namespace Sys2Proof.Machine

/-- The recorded value fits the exception (60_exceptions.md R501): the faulting pc, a target that is not four-byte
aligned, some value for an illegal word or a data access, none for ECALL and EBREAK. -/
def TrapRecord.wf (r : TrapRecord) : Bool :=
  match r.exc, r.value with
  | .instructionAccessFault, some v => v == r.pc
  | .instructionAddressMisaligned, some v => targetMisaligned v
  | .illegalInstruction, some _ => true
  | .loadAddressMisaligned, some _ => true
  | .loadAccessFault, some _ => true
  | .storeAddressMisaligned, some _ => true
  | .storeAccessFault, some _ => true
  | .breakpoint, none => true
  | .environmentCall, none => true
  | _, _ => false

/-- The invariant of every state that a run reaches: pc[1:0] = 00 (10_state.md R26), memory in its canonical form,
`stale` a set of addresses (R38), an injective `CAUSE` (00_scope.md R4 P12), and a trap outcome that names the pc it was
raised at (60_exceptions.md R510). -/
def State.wf (s : State) : Bool :=
  decide (s.pc.extractLsb' 0 2 = 0#2) && Memory.wf s.mem && staleWfFrom 0 s.stale && CauseTable.wf s.cfg.cause &&
    (match s.trap with
     | none => true
     | some r => decide (r.pc = s.pc) && TrapRecord.wf r)

/-- A launch the spec allows: RESET_PC is a multiple of 4 (10_state.md R40), memory in canonical form, `CAUSE` injective
(00_scope.md R4 P12; 92_eei_decisions.md, summary of the parameters). The summary's "counters far from 2^64" names no
bound and is not asked for (log 4). -/
def Launch.wf (l : Launch) : Bool :=
  decide (l.resetPc.extractLsb' 0 2 = 0#2) && Memory.wf l.mem && CauseTable.wf l.cfg.cause

/-- The hart is running: no trap outcome is pending. -/
def State.running (s : State) : Bool := s.trap.isNone

/-- The outcome is a next state in which the hart still runs: the instruction completed. -/
def completed : StepResult → Bool
  | .next s => s.running
  | .fault _ => false
  | .refused _ => false

/-- What an instruction may change of the registers: the register it names as its
destination. The RV64I shift forms run as the RV32I shift when shamt[5] = 0 (47_rv64i_listed.md R364). -/
def destination : Instr → Option Reg
  | .lui rd _ => some rd
  | .auipc rd _ => some rd
  | .jal rd _ => some rd
  | .jalr rd _ _ => some rd
  | .lb rd _ _ => some rd
  | .lh rd _ _ => some rd
  | .lw rd _ _ => some rd
  | .lbu rd _ _ => some rd
  | .lhu rd _ _ => some rd
  | .addi rd _ _ => some rd
  | .slti rd _ _ => some rd
  | .sltiu rd _ _ => some rd
  | .xori rd _ _ => some rd
  | .ori rd _ _ => some rd
  | .andi rd _ _ => some rd
  | .slli rd _ _ => some rd
  | .srli rd _ _ => some rd
  | .srai rd _ _ => some rd
  | .add rd _ _ => some rd
  | .sub rd _ _ => some rd
  | .sll rd _ _ => some rd
  | .slt rd _ _ => some rd
  | .sltu rd _ _ => some rd
  | .xor rd _ _ => some rd
  | .srl rd _ _ => some rd
  | .sra rd _ _ => some rd
  | .or rd _ _ => some rd
  | .and rd _ _ => some rd
  | .csrrw rd _ _ => some rd
  | .csrrs rd _ _ => some rd
  | .csrrc rd _ _ => some rd
  | .csrrwi rd _ _ => some rd
  | .csrrsi rd _ _ => some rd
  | .csrrci rd _ _ => some rd
  | .mul rd _ _ => some rd
  | .mulh rd _ _ => some rd
  | .mulhsu rd _ _ => some rd
  | .mulhu rd _ _ => some rd
  | .div rd _ _ => some rd
  | .divu rd _ _ => some rd
  | .rem rd _ _ => some rd
  | .remu rd _ _ => some rd
  | .slliRv64 rd _ _ => some rd
  | .srliRv64 rd _ _ => some rd
  | .sraiRv64 rd _ _ => some rd
  | _ => none

/-- The store instructions. -/
def isStore : Instr → Bool
  | .sb _ _ _ => true
  | .sh _ _ _ => true
  | .sw _ _ _ => true
  | _ => false

/-- How many bytes a store writes (42_load_store.md R266 to R268). -/
def storeWidth : Instr → Nat
  | .sb _ _ _ => 1
  | .sh _ _ _ => 2
  | .sw _ _ _ => 4
  | _ => 0

/-- The effective address of a load or store (42_load_store.md R260). -/
def accessAddress : Instr → State → Option Word
  | .lb _ rs1 imm, s => some (readX s rs1 + imm.signExtend 32)
  | .lh _ rs1 imm, s => some (readX s rs1 + imm.signExtend 32)
  | .lw _ rs1 imm, s => some (readX s rs1 + imm.signExtend 32)
  | .lbu _ rs1 imm, s => some (readX s rs1 + imm.signExtend 32)
  | .lhu _ rs1 imm, s => some (readX s rs1 + imm.signExtend 32)
  | .sb rs1 _ imm, s => some (readX s rs1 + imm.signExtend 32)
  | .sh rs1 _ imm, s => some (readX s rs1 + imm.signExtend 32)
  | .sw rs1 _ imm, s => some (readX s rs1 + imm.signExtend 32)
  | _, _ => none

/-- The target of a jump, or of a branch if it is taken (41_control_transfer.md R241, R242, R250). -/
def jumpTarget : Instr → State → Option Word
  | .jal _ off, s => some (s.pc + off.signExtend 32)
  | .jalr _ rs1 imm, s => some ((readX s rs1 + imm.signExtend 32) &&& 0xFFFFFFFE#32)
  | .beq _ _ off, s => some (s.pc + off.signExtend 32)
  | .bne _ _ off, s => some (s.pc + off.signExtend 32)
  | .blt _ _ off, s => some (s.pc + off.signExtend 32)
  | .bge _ _ off, s => some (s.pc + off.signExtend 32)
  | .bltu _ _ off, s => some (s.pc + off.signExtend 32)
  | .bgeu _ _ off, s => some (s.pc + off.signExtend 32)
  | _, _ => none

/-- The instructions of the 104 listed-only rows (30_encoding.md, section 7). -/
def isListed : Instr → Bool
  | .lwu _ _ _ => true
  | .ld _ _ _ => true
  | .sd _ _ _ => true
  | .slliRv64 _ _ _ => true
  | .srliRv64 _ _ _ => true
  | .sraiRv64 _ _ _ => true
  | .addiw _ _ _ => true
  | .slliw _ _ _ => true
  | .srliw _ _ _ => true
  | .sraiw _ _ _ => true
  | .addw _ _ _ => true
  | .subw _ _ _ => true
  | .sllw _ _ _ => true
  | .srlw _ _ _ => true
  | .sraw _ _ _ => true
  | .mulw _ _ _ => true
  | .divw _ _ _ => true
  | .divuw _ _ _ => true
  | .remw _ _ _ => true
  | .remuw _ _ _ => true
  | .lrW _ _ _ _ => true
  | .scW _ _ _ _ _ => true
  | .amoswapW _ _ _ _ _ => true
  | .amoaddW _ _ _ _ _ => true
  | .amoxorW _ _ _ _ _ => true
  | .amoandW _ _ _ _ _ => true
  | .amoorW _ _ _ _ _ => true
  | .amominW _ _ _ _ _ => true
  | .amomaxW _ _ _ _ _ => true
  | .amominuW _ _ _ _ _ => true
  | .amomaxuW _ _ _ _ _ => true
  | .lrD _ _ _ _ => true
  | .scD _ _ _ _ _ => true
  | .amoswapD _ _ _ _ _ => true
  | .amoaddD _ _ _ _ _ => true
  | .amoxorD _ _ _ _ _ => true
  | .amoandD _ _ _ _ _ => true
  | .amoorD _ _ _ _ _ => true
  | .amominD _ _ _ _ _ => true
  | .amomaxD _ _ _ _ _ => true
  | .amominuD _ _ _ _ _ => true
  | .amomaxuD _ _ _ _ _ => true
  | .flw _ _ _ => true
  | .fsw _ _ _ => true
  | .fmaddS _ _ _ _ _ => true
  | .fmsubS _ _ _ _ _ => true
  | .fnmsubS _ _ _ _ _ => true
  | .fnmaddS _ _ _ _ _ => true
  | .faddS _ _ _ _ => true
  | .fsubS _ _ _ _ => true
  | .fmulS _ _ _ _ => true
  | .fdivS _ _ _ _ => true
  | .fsqrtS _ _ _ => true
  | .fsgnjS _ _ _ => true
  | .fsgnjnS _ _ _ => true
  | .fsgnjxS _ _ _ => true
  | .fminS _ _ _ => true
  | .fmaxS _ _ _ => true
  | .fcvtWS _ _ _ => true
  | .fcvtWuS _ _ _ => true
  | .fmvXW _ _ => true
  | .feqS _ _ _ => true
  | .fltS _ _ _ => true
  | .fleS _ _ _ => true
  | .fclassS _ _ => true
  | .fcvtSW _ _ _ => true
  | .fcvtSWu _ _ _ => true
  | .fmvWX _ _ => true
  | .fcvtLS _ _ _ => true
  | .fcvtLuS _ _ _ => true
  | .fcvtSL _ _ _ => true
  | .fcvtSLu _ _ _ => true
  | .fld _ _ _ => true
  | .fsd _ _ _ => true
  | .fmaddD _ _ _ _ _ => true
  | .fmsubD _ _ _ _ _ => true
  | .fnmsubD _ _ _ _ _ => true
  | .fnmaddD _ _ _ _ _ => true
  | .faddD _ _ _ _ => true
  | .fsubD _ _ _ _ => true
  | .fmulD _ _ _ _ => true
  | .fdivD _ _ _ _ => true
  | .fsqrtD _ _ _ => true
  | .fsgnjD _ _ _ => true
  | .fsgnjnD _ _ _ => true
  | .fsgnjxD _ _ _ => true
  | .fminD _ _ _ => true
  | .fmaxD _ _ _ => true
  | .fcvtSD _ _ _ => true
  | .fcvtDS _ _ _ => true
  | .feqD _ _ _ => true
  | .fltD _ _ _ => true
  | .fleD _ _ _ => true
  | .fclassD _ _ => true
  | .fcvtWD _ _ _ => true
  | .fcvtWuD _ _ _ => true
  | .fcvtDW _ _ _ => true
  | .fcvtDWu _ _ _ => true
  | .fcvtLD _ _ _ => true
  | .fcvtLuD _ _ _ => true
  | .fmvXD _ _ => true
  | .fcvtDL _ _ _ => true
  | .fcvtDLu _ _ _ => true
  | .fmvDX _ _ => true
  | _ => false

/-- Which instruction may raise which exception while it executes (60_exceptions.md R501). -/
def mayRaise : Instr → Exc → Bool
  | .jal _ _, .instructionAddressMisaligned => true
  | .jalr _ _ _, .instructionAddressMisaligned => true
  | .beq _ _ _, .instructionAddressMisaligned => true
  | .bne _ _ _, .instructionAddressMisaligned => true
  | .blt _ _ _, .instructionAddressMisaligned => true
  | .bge _ _ _, .instructionAddressMisaligned => true
  | .bltu _ _ _, .instructionAddressMisaligned => true
  | .bgeu _ _ _, .instructionAddressMisaligned => true
  | .ebreak, .breakpoint => true
  | .ecall, .environmentCall => true
  | .lh _ _ _, .loadAddressMisaligned => true
  | .lhu _ _ _, .loadAddressMisaligned => true
  | .lw _ _ _, .loadAddressMisaligned => true
  | .lb _ _ _, .loadAccessFault => true
  | .lh _ _ _, .loadAccessFault => true
  | .lw _ _ _, .loadAccessFault => true
  | .lbu _ _ _, .loadAccessFault => true
  | .lhu _ _ _, .loadAccessFault => true
  | .sh _ _ _, .storeAddressMisaligned => true
  | .sw _ _ _, .storeAddressMisaligned => true
  | .sb _ _ _, .storeAccessFault => true
  | .sh _ _ _, .storeAccessFault => true
  | .sw _ _ _, .storeAccessFault => true
  | .csrrw _ _ _, .illegalInstruction => true
  | .csrrs _ _ _, .illegalInstruction => true
  | .csrrc _ _ _, .illegalInstruction => true
  | .csrrwi _ _ _, .illegalInstruction => true
  | .csrrsi _ _ _, .illegalInstruction => true
  | .csrrci _ _ _, .illegalInstruction => true
  | i, .illegalInstruction => isListed i
  | _, _ => false

end Sys2Proof.Machine
end

