-- ==== Sys2Proof/Certificates/Slice0/Obligations.lean ====
section
/-! DEFINITION. The statements for the provers, and the few predicates they share. A statement about exec says what
the next state is and what it leaves as it was, through `readX`, `byteAt` and the fields of State. -/

namespace Sys2Proof.Machine

/-- The instruction completed: the next instruction is at `next`, instret counted one more (away from its largest
value, at which nothing is claimed), and no counter, trap, parameter or draw changed. -/
def Retires (s t : State) (next : Word) : Prop :=
  t.pc = next ∧ (s.instret ≠ BitVec.allOnes 64 → t.instret = s.instret + 1#64) ∧ t.cycle = s.cycle ∧ t.time = s.time ∧
    t.trap = s.trap ∧ t.cfg = s.cfg ∧ t.draws = s.draws

/-- Memory and `stale` are as they were. -/
def SameMemory (s t : State) : Prop := (∀ a, byteAt t a = byteAt s a) ∧ t.stale = s.stale

/-- Every register is as it was. -/
def SameRegisters (s t : State) : Prop := ∀ q, readX t q = readX s q

/-- The instruction completes at `next` with `v` in rd (nothing written if rd is x0) and changes nothing else. -/
def WritesAndGoesTo (s : State) (r : StepResult) (rd : Reg) (v next : Word) : Prop :=
  ∃ t, r = .next t ∧ (∀ q, readX t q = if q = 0#5 then 0#32 else if q = rd then v else readX s q) ∧
    SameMemory s t ∧ Retires s t next

/-- The instruction completes at pc + 4 with `v` in rd and changes nothing else. -/
def Writes (s : State) (r : StepResult) (rd : Reg) (v : Word) : Prop := WritesAndGoesTo s r rd v (s.pc + 4#32)

/-- The instruction completes at `next` and writes no register and no byte. -/
def OnlyGoesTo (s : State) (r : StepResult) (next : Word) : Prop :=
  ∃ t, r = .next t ∧ SameRegisters s t ∧ SameMemory s t ∧ Retires s t next

/-- The trap outcome names the exception, the pc and the recorded value, and every register, byte, counter, `stale`
and pc is as before the instruction. -/
def Traps (s : State) (r : StepResult) (e : Exc) (v : Option Word) : Prop :=
  ∃ t, r = .next t ∧ t.trap = some { exc := e, pc := s.pc, value := v } ∧ SameRegisters s t ∧ SameMemory s t ∧
    t.pc = s.pc ∧ t.instret = s.instret ∧ t.cycle = s.cycle ∧ t.time = s.time ∧ t.cfg = s.cfg ∧ t.draws = s.draws

/-- The address is a multiple of 4. -/
abbrev FourAligned (a : Word) : Prop := a.toNat % 4 = 0

/-- A jump: to an aligned target with the link value in rd, or the misaligned-target exception. -/
def Jumps (s : State) (r : StepResult) (rd : Reg) (target : Word) : Prop :=
  (FourAligned target → WritesAndGoesTo s r rd (s.pc + 4#32) target) ∧
  (¬FourAligned target → Traps s r .instructionAddressMisaligned (some target))

/-- A branch: taken to an aligned target, taken to a misaligned one, or not taken. -/
def Branches (s : State) (r : StepResult) (taken : Prop) (off : BitVec 13) : Prop :=
  (taken → FourAligned (s.pc + off.signExtend 32) → OnlyGoesTo s r (s.pc + off.signExtend 32)) ∧
  (taken → ¬FourAligned (s.pc + off.signExtend 32) →
    Traps s r .instructionAddressMisaligned (some (s.pc + off.signExtend 32))) ∧
  (¬taken → OnlyGoesTo s r (s.pc + 4#32))

/-- Every one of the `n` bytes from `a` on (modulo 2^32) is legal for the kind of access. -/
abbrev LegalFor (s : State) (k : AccessKind) (a : Word) (n : Nat) : Prop :=
  ∀ i, i < n → legalByte s.cfg k (a + BitVec.ofNat 32 i) = true

/-- The access of `n` bytes at `a` is not turned away for its alignment. -/
abbrev AlignmentServed (s : State) (a : Word) (n : Nat) : Prop :=
  s.cfg.misalignedData = .supported ∨ a.toNat % n = 0

/-- A store completed: the low `n` bytes of `v` are at `ea` on, every other byte and every register is as it was, and
`stale` gained exactly the stored addresses. -/
def StoresBytes (s : State) (r : StepResult) (ea : Word) (n : Nat) (v : Word) : Prop :=
  ∃ t, r = .next t ∧ SameRegisters s t ∧ Retires s t (s.pc + 4#32) ∧
    (∀ i, i < n → byteAt t (ea + BitVec.ofNat 32 i) = v.extractLsb' (8 * i) 8) ∧
    (∀ a, (∀ i, i < n → a ≠ ea + BitVec.ofNat 32 i) → byteAt t a = byteAt s a) ∧
    (∀ a, a ∈ t.stale ↔ a ∈ s.stale ∨ ∃ i, i < n ∧ a = (ea + BitVec.ofNat 32 i).toNat)

/-- The word has the given major opcode (inst[6:0]). -/
abbrev HasOpcode (w : Word) (op : BitVec 7) : Prop := w.extractLsb' 0 7 = op

/-- A reserved FENCE or FENCE.I word: MISC-MEM with funct3 000 and a non-zero inst[31:28], rs1 or rd, or funct3 001 and a
non-zero inst[31:20], rs1 or rd. -/
abbrev ReservedFenceWord (w : Word) : Prop :=
  HasOpcode w 0b0001111#7 ∧
    ((w.extractLsb' 12 3 = 0b000#3 ∧
        (w.extractLsb' 28 4 ≠ 0#4 ∨ w.extractLsb' 15 5 ≠ 0#5 ∨ w.extractLsb' 7 5 ≠ 0#5)) ∨
      (w.extractLsb' 12 3 = 0b001#3 ∧
        (w.extractLsb' 20 12 ≠ 0#12 ∨ w.extractLsb' 15 5 ≠ 0#5 ∨ w.extractLsb' 7 5 ≠ 0#5)))

/-- Run a list of instructions one after another, each at its own address, as long as none traps. -/
def runAll : List Instr → State → StepResult
  | [], s => .next s
  | i :: rest, s =>
    match exec i s with
    | .next t => if t.trap.isNone then runAll rest t else .next t
    | .fault r => .fault r
    | .refused r => .refused r

end Sys2Proof.Machine

open Sys2Proof Sys2Proof.Machine

/-- Decoding the word of any well-formed instruction gives the instruction back (30_encoding.md section 2 and 3,
30_encoding.md R102, opcode_table.json). Model choices: that a word of a listed-only row, which R119 says the hardware
never matches, decodes to a constructor of its own (log 19), and what well-formed means (log 27). -/
def Obligations.DecodeOfEncodeIsTheInstruction : Prop :=
  ∀ i : Instr, i.wf = true → decode (encode i) = .ok i

/-- A word that decodes is the encoding of what it decodes to (30_encoding.md section 2 and 6, 30_encoding.md R119).
Model choices: that a word of a listed-only row decodes at all (log 19), what well-formed means (log 27), that an
illegal instruction records its encoding (log 20). Rests on the spec's own decisions D6, D7 (92_eei_decisions.md).
Inference the spec marks as its own: R119. -/
def Obligations.EncodeOfDecodeIsTheWord : Prop :=
  ∀ (w : Word) (i : Instr), decode w = .ok i → encode i = w ∧ i.wf = true

/-- Words printed in the spec decode to the instruction of their row of the opcode table (30_encoding.md R102 to R117,
95_test_vectors.md section 2). Model choice for the listed-only words 0x02159513, 0x1005A52F and 0x6AC58543: the
hardware matches no row with them (R119) and they are IllegalInstruction (95_test_vectors.md 2.9); that they decode to
slliRv64, lrW and fmaddD, whose meaning raises that exception, is log 19. The other fourteen are the instructions the
spec names. Inference the spec marks as its own: R107, R115. -/
def Obligations.WordsOfTheSpecDecode : Prop :=
  decode 0xFFF58513#32 = .ok (.addi 10#5 11#5 0xFFF#12) ∧
  decode 0x12345537#32 = .ok (.lui 10#5 0x12345#20) ∧
  decode 0xFF9FF0EF#32 = .ok (.jal 1#5 (BitVec.ofInt 21 (-8))) ∧
  decode 0xFEB51CE3#32 = .ok (.bne 10#5 11#5 (BitVec.ofInt 13 (-8))) ∧
  decode 0x0045A503#32 = .ok (.lw 10#5 11#5 4#12) ∧
  decode 0xFEA5AE23#32 = .ok (.sw 11#5 10#5 0xFFC#12) ∧
  decode 0x40C58533#32 = .ok (.sub 10#5 11#5 12#5) ∧
  decode 0x4045D513#32 = .ok (.srai 10#5 11#5 4#5) ∧
  decode 0x0330000F#32 = .ok (.fence 0b0011#4 0b0011#4) ∧
  decode 0x0000100F#32 = .ok (.fenceI) ∧
  decode 0x00000073#32 = .ok (.ecall) ∧
  decode 0x00100073#32 = .ok (.ebreak) ∧
  decode 0xC000E573#32 = .ok (.csrrsi 10#5 0xC00#12 1#5) ∧
  decode 0x02C5A533#32 = .ok (.mulhsu 10#5 11#5 12#5) ∧
  decode 0x02159513#32 = .ok (.slliRv64 10#5 11#5 33#6) ∧
  decode 0x1005A52F#32 = .ok (.lrW 10#5 11#5 0#1 0#1) ∧
  decode 0x6AC58543#32 = .ok (.fmaddD 10#5 11#5 12#5 13#5 0#3)

/-- A fetched word runs, is refused or traps exactly as the decode procedure says (30_encoding.md R119, 30_encoding.md
R125). Model choices: a refused word is log 15, a listed-only word is log 19. Rests on the spec's own decisions D6, D7
(92_eei_decisions.md). Inference the spec marks as its own: R119. -/
def Obligations.DecodeFollowsTheProcedure : Prop :=
  executedRows.length = 55 ∧ ∀ (w : Word) (s : State),
    if w.extractLsb' 0 2 ≠ 0b11#2 then Traps s (runWord w s) .illegalInstruction (some w)
    else if w.extractLsb' 2 3 = 0b111#3 then Traps s (runWord w s) .illegalInstruction (some w)
    else if executedRows.any (·.covers w) = true then
      ∃ i row, row ∈ executedRows ∧ row.covers w = true ∧ row.mnemonic = i.mnemonic ∧ encode i = w ∧
        decode w = .ok i ∧ runWord w s = exec i s ∧
        ∀ other, other ∈ executedRows → other.covers w = true → other = row
    else if HasOpcode w 0b0001111#7 ∧ (w.extractLsb' 12 3 = 0b000#3 ∨ w.extractLsb' 12 3 = 0b001#3) then
      runWord w s = .refused (.reservedFence w)
    else Traps s (runWord w s) .illegalInstruction (some w)

/-- No word matches two of the 55 executed rows (30_encoding.md R119, 30_encoding.md R125). Rests on the spec's own
decisions D6, D7 (92_eei_decisions.md). Inference the spec marks as its own: R119. -/
def Obligations.ExecutedRowsAreDisjoint : Prop :=
  ∀ (w : Word) (r q : OpcodeRow), r ∈ executedRows → q ∈ executedRows → r.covers w = true → q.covers w = true → r = q

/-- A decoded word has the fixed bits of its own row of the opcode table (30_encoding.md R118, opcode_table.json).
That a word of a listed-only row decodes to a constructor of its own is the model choice of log 19. -/
def Obligations.DecodedWordsLieInTheirRow : Prop :=
  ∀ (w : Word) (i : Instr), decode w = .ok i →
    ∃ row, row ∈ opcodeTable ∧ row.mnemonic = i.mnemonic ∧ row.covers w = true

/-- A word whose major opcode none of the executed instructions has traps IllegalInstruction (30_encoding.md R120,
30_encoding.md R122, 30_encoding.md R118). Rests on the spec's own decisions D2, D6 (92_eei_decisions.md). Inference
the spec marks as its own: R122. -/
def Obligations.MajorOpcodesWithoutAnInstructionTrap : Prop :=
  (∀ (w : Word) (s : State),
    w.extractLsb' 0 7 ∉ ([0b0110111#7, 0b0010111#7, 0b1101111#7, 0b1100111#7, 0b1100011#7, 0b0000011#7, 0b0100011#7,
      0b0010011#7, 0b0110011#7, 0b0001111#7, 0b1110011#7] : List (BitVec 7)) →
    Traps s (runWord w s) .illegalInstruction (some w)) ∧
  ∀ s : State, Traps s (runWord 0x00000000#32 s) .illegalInstruction (some 0x00000000#32) ∧
    Traps s (runWord 0xFFFFFFFF#32 s) .illegalInstruction (some 0xFFFFFFFF#32)

/-- A reserved FENCE or FENCE.I word is refused, and no other word is (30_encoding.md R121). How the refusal is
modelled: log 15. Rests on the spec's own decisions D7 (92_eei_decisions.md). -/
def Obligations.ReservedFenceWordsAreRefused : Prop :=
  ∀ (w : Word) (s : State),
    (ReservedFenceWord w → runWord w s = .refused (.reservedFence w)) ∧
    (¬ReservedFenceWord w → ∃ t, runWord w s = .next t)

/-- Words of the three RV64I shift rows run as the RV32I shift or trap, by inst[25] (47_rv64i_listed.md R364,
47_rv64i_listed.md R365, 47_rv64i_listed.md R366). How listed-only words decode: log 19. Rests on the spec's own
decisions D1, D6 (92_eei_decisions.md). -/
def Obligations.Rv64ShiftWordsAreShiftsOrTrap : Prop :=
  ∀ (w : Word) (s : State),
    (w &&& 0xFC00707F#32 = 0x00001013#32 →
      (w.getLsbD 25 = false → ∃ rd rs1 shamt, decode w = .ok (.slli rd rs1 shamt) ∧
        runWord w s = exec (.slli rd rs1 shamt) s) ∧
      (w.getLsbD 25 = true → Traps s (runWord w s) .illegalInstruction (some w))) ∧
    (w &&& 0xFC00707F#32 = 0x00005013#32 →
      (w.getLsbD 25 = false → ∃ rd rs1 shamt, decode w = .ok (.srli rd rs1 shamt) ∧
        runWord w s = exec (.srli rd rs1 shamt) s) ∧
      (w.getLsbD 25 = true → Traps s (runWord w s) .illegalInstruction (some w))) ∧
    (w &&& 0xFC00707F#32 = 0x40005013#32 →
      (w.getLsbD 25 = false → ∃ rd rs1 shamt, decode w = .ok (.srai rd rs1 shamt) ∧
        runWord w s = exec (.srai rd rs1 shamt) s) ∧
      (w.getLsbD 25 = true → Traps s (runWord w s) .illegalInstruction (some w)))

/-- Each immediate is built from its instruction bits, sign-extended, within its range (R108, R109, R110, R111, R112).
-/
def Obligations.ImmediatesComeFromTheirInstructionBits : Prop :=
  ∀ w : Word,
    (∀ k, k < 32 → (immI (immIOf w)).getLsbD k = (if k < 11 then w.getLsbD (k + 20) else w.getLsbD 31)) ∧
    (-2048 ≤ (immI (immIOf w)).toInt ∧ (immI (immIOf w)).toInt ≤ 2047) ∧
    (∀ k, k < 32 → (immS (immSOf w)).getLsbD k =
      (if k < 5 then w.getLsbD (k + 7) else if k < 11 then w.getLsbD (k + 20) else w.getLsbD 31)) ∧
    (-2048 ≤ (immS (immSOf w)).toInt ∧ (immS (immSOf w)).toInt ≤ 2047) ∧
    (∀ k, k < 32 → (immB (offBOf w)).getLsbD k =
      (if k = 0 then false else if k < 5 then w.getLsbD (k + 7) else if k < 11 then w.getLsbD (k + 20)
       else if k = 11 then w.getLsbD 7 else w.getLsbD 31)) ∧
    (-4096 ≤ (immB (offBOf w)).toInt ∧ (immB (offBOf w)).toInt ≤ 4094) ∧
    (∀ k, k < 32 → (immU (immUOf w)).getLsbD k = (if k < 12 then false else w.getLsbD k)) ∧
    (∀ k, k < 32 → (immJ (offJOf w)).getLsbD k =
      (if k = 0 then false else if k < 11 then w.getLsbD (k + 20) else if k = 11 then w.getLsbD 20
       else if k < 20 then w.getLsbD k else w.getLsbD 31)) ∧
    (-1048576 ≤ (immJ (offJOf w)).toInt ∧ (immJ (offJOf w)).toInt ≤ 1048574)

/-- When the bytes at an aligned, legal, unstale pc decode to an instruction, the step is that instruction
(10_state.md R39, 20_memory.md R70). Rests on the spec's own decisions D4 (92_eei_decisions.md). Inference the spec
marks as its own: R70. -/
def Obligations.StepRunsTheDecodedInstruction : Prop :=
  ∀ (s : State) (i : Instr), s.trap = none → FourAligned s.pc → LegalFor s .fetch s.pc 4 →
    (∀ k, k < 4 → (s.pc + BitVec.ofNat 32 k).toNat ∉ s.stale) →
    decode (byteAt s (s.pc + 3#32) ++ byteAt s (s.pc + 2#32) ++ byteAt s (s.pc + 1#32) ++ byteAt s s.pc) = .ok i →
    i.wf = true ∧ step s = (match exec i s with
      | .next t => .next (betweenSteps t)
      | .fault r => .fault r
      | .refused r => .refused r)

/-- When the fetched word is no instruction, the step traps with the word (10_state.md R39, 30_encoding.md R120).
Rests on the spec's own decisions D4, D6 (92_eei_decisions.md). -/
def Obligations.StepOnAWordThatIsNoInstructionTraps : Prop :=
  ∀ (s : State) (w : Word), s.trap = none → FourAligned s.pc → fetch s = .word w → decode w = .error .illegal →
    step s = .next (betweenSteps (takeException s .illegalInstruction (some w)))

/-- Fetch raises the access fault first, is refused on a stale byte next, and else reads little-endian (20_memory.md
R70, 20_memory.md R62, 20_memory.md R78). The byte order of a fetched word is log 13, the refusal of a stale fetch log
14. Rests on the spec's own decisions D3, D13 (92_eei_decisions.md). Inference the spec marks as its own: R70. -/
def Obligations.FetchChecksLegalityThenStaleness : Prop :=
  ∀ s : State, s.trap = none → FourAligned s.pc →
    (¬LegalFor s .fetch s.pc 4 →
      Traps s (.next (takeException s .instructionAccessFault (some s.pc))) .instructionAccessFault (some s.pc) ∧
      step s = .next (betweenSteps (takeException s .instructionAccessFault (some s.pc)))) ∧
    (LegalFor s .fetch s.pc 4 → (∃ k, k < 4 ∧ (s.pc + BitVec.ofNat 32 k).toNat ∈ s.stale) →
      step s = .refused (.staleFetch s.pc)) ∧
    (LegalFor s .fetch s.pc 4 → (∀ k, k < 4 → (s.pc + BitVec.ofNat 32 k).toNat ∉ s.stale) →
      fetch s = .word (byteAt s (s.pc + 3#32) ++ byteAt s (s.pc + 2#32) ++ byteAt s (s.pc + 1#32) ++ byteAt s s.pc))

/-- Between two steps only the counters move, and never down (10_state.md R30, 10_state.md R31, 10_state.md R32,
60_exceptions.md R520). The advances are the model's free values (log 10, log 11); the statement holds for every value
of them. Rests on the spec's own decisions D15, D17 (92_eei_decisions.md). -/
def Obligations.BetweenStepsOnlyCountersAdvance : Prop :=
  ∀ s : State, SameRegisters s (betweenSteps s) ∧ SameMemory s (betweenSteps s) ∧ (betweenSteps s).pc = s.pc ∧
    (betweenSteps s).trap = s.trap ∧ (betweenSteps s).cfg = s.cfg ∧
    s.cycle.toNat ≤ (betweenSteps s).cycle.toNat ∧ s.time.toNat ≤ (betweenSteps s).time.toNat ∧
    s.instret.toNat ≤ (betweenSteps s).instret.toNat ∧
    (s.cfg.envQuiet = true → (betweenSteps s).instret = s.instret) ∧
    (s.trap.isSome = true → (betweenSteps s).instret = s.instret)

/-- A word placed by withFetchWord is the word the next step runs (70_reset_and_hazards.md R553, 20_memory.md R62).
withFetchWord stands for a load from outside (log 17). Rests on the spec's own decisions D3, D27
(92_eei_decisions.md). -/
def Obligations.PlacedWordIsWhatTheNextStepRuns : Prop :=
  ∀ (s : State) (w : Nat),
    step (s.withFetchWord 32 w) = afterStep (runWord (BitVec.ofNat 32 w) (s.withFetchWord 32 w)) ∧
    SameRegisters s (s.withFetchWord 32 w) ∧ (s.withFetchWord 32 w).instret = s.instret ∧
    (s.withFetchWord 32 w).cycle = s.cycle ∧ (s.withFetchWord 32 w).time = s.time ∧
    ∀ a : Word, (∀ k, k < 4 → a ≠ (s.withFetchWord 32 w).pc + BitVec.ofNat 32 k) →
      byteAt (s.withFetchWord 32 w) a = byteAt s a

/-- After a trap the run ends by default, or goes on from the state the environment answers with (60_exceptions.md
R510, 60_exceptions.md R512, 70_reset_and_hazards.md R554). Rests on the spec's own decisions D4, D15, D20, D25
(92_eei_decisions.md). -/
def Obligations.APendingTrapIsTheEnvironmentsToAnswer : Prop :=
  ∀ (s : State) (r : TrapRecord), s.trap = some r →
    step s = .fault (.endOfRun r) ∧
    ∀ env : EnvService,
      (env r s = none → stepEnv env s = .fault (.endOfRun r)) ∧
      (∀ reply, env r s = some reply → ∃ t, stepEnv env s = .next t ∧ t.trap = none ∧ SameRegisters reply t ∧
        SameMemory reply t ∧ t.pc = reply.pc ∧ t.instret = reply.instret)

/-- Every step keeps pc aligned, memory canonical, stale a set, CAUSE injective, and the trap record true to its pc
(10_state.md R26, 10_state.md R38, 60_exceptions.md R501, 92_eei_decisions.md summary of the parameters). Rests on the
spec's own decisions D5, D8, D9, D11, D13, D17, D19, D20 (92_eei_decisions.md). -/
def Obligations.EveryStepKeepsTheInvariant : Prop :=
  ∀ s t : State, State.wf s = true → step s = .next t → State.wf t = true

/-- The reset state and every launch the spec allows have the invariant, under which CAUSE identifies the exception
(10_state.md R26, 10_state.md R40, 70_reset_and_hazards.md R553, 60_exceptions.md R503, 92_eei_decisions.md summary of
the parameters). That CAUSE is injective is 92_eei_decisions.md's constraint on the parameter P12; the numbers of
State.reset are log 9. Rests on the spec's own decisions D5, D16, D27 (92_eei_decisions.md). -/
def Obligations.AllowedLaunchesHaveTheInvariant : Prop :=
  State.wf State.reset = true ∧ (∀ l : Launch, Launch.wf l = true → State.wf (State.launch l) = true) ∧
  ∀ (s : State) (e f : Exc), State.wf s = true → (causeOf s.cfg e = causeOf s.cfg f ↔ e = f)

/-- A run starts at the launcher values with x0 zero, stale empty and no trap (10_state.md R40,
70_reset_and_hazards.md R550). Model choices: log 2 (registers), log 3 (RESET_PC), log 4 (counters), log 5 (memory),
log 6 to log 9 (parameters). Rests on the spec's own decisions D16, D28 (92_eei_decisions.md). -/
def Obligations.ResetLeavesWhatTheRulesSay : Prop :=
  (∀ l : Launch, readX (State.launch l) 0#5 = 0#32 ∧ (State.launch l).pc = l.resetPc ∧ (State.launch l).stale = [] ∧
      (State.launch l).trap = none ∧ (State.launch l).x = l.x ∧ (State.launch l).cycle = l.cycle ∧
      (State.launch l).time = l.time ∧ (State.launch l).instret = l.instret ∧ (State.launch l).mem = l.mem ∧
      (State.launch l).cfg = l.cfg) ∧
    State.reset.pc = 0x00001000#32 ∧ (∀ r, readX State.reset r = 0#32) ∧ (∀ a, byteAt State.reset a = 0#8) ∧
    State.reset.cycle = 0#64 ∧ State.reset.time = 0#64 ∧ State.reset.instret = 0#64 ∧
    (∀ k a, legalByte State.reset.cfg k a = true) ∧ State.reset.cfg.misalignedData = .supported ∧
    State.reset.cfg.envQuiet = true ∧ State.reset.cfg.cause = CauseTable.default

/-- A step that traps hands over the state exactly as before the instruction, and ends the run by default
(60_exceptions.md R510). Where the record stands is log 1, the default environment log 18. Rests on the spec's own
decisions D4, D15, D20 (92_eei_decisions.md). -/
def Obligations.TrapsArePrecise : Prop :=
  ∀ (s t : State) (r : TrapRecord), s.trap = none → step s = .next t → t.trap = some r →
    r.pc = s.pc ∧ SameRegisters s t ∧ SameMemory s t ∧ t.pc = s.pc ∧ t.instret = s.instret ∧ t.cfg = s.cfg ∧
    s.cycle.toNat ≤ t.cycle.toNat ∧ s.time.toNat ≤ t.time.toNat ∧
    step t = .fault (.endOfRun r) ∧
    ∀ env : EnvService, stepEnv env t = (match env r t with
      | none => .fault (.endOfRun r)
      | some reply => .next (resume reply))

/-- No instruction stops the machine: each completes or takes its exception (10_state.md R39, 60_exceptions.md R500).
Rests on the spec's own decisions D4 (92_eei_decisions.md). -/
def Obligations.EveryInstructionAnswersANextState : Prop :=
  ∀ (i : Instr) (s : State), s.trap = none → ∃ t, exec i s = .next t ∧
    (t.trap = none ∨ ∃ r, t.trap = some r ∧ r.pc = s.pc ∧ t.pc = s.pc)

/-- An instruction raises only the exceptions the list gives it, with their recorded values (60_exceptions.md R501,
60_exceptions.md R504, 60_exceptions.md R505). Rests on the spec's own decisions D5, D8, D9, D19, D20, D23
(92_eei_decisions.md). -/
def Obligations.EachInstructionRaisesOnlyItsOwnExceptions : Prop :=
  ∀ (i : Instr) (s t : State) (r : TrapRecord), s.trap = none → exec i s = .next t → t.trap = some r →
    mayRaise i r.exc = true ∧
    (r.exc = .illegalInstruction → r.value = some (encode i)) ∧
    ((r.exc = .breakpoint ∨ r.exc = .environmentCall) → r.value = none) ∧
    (r.exc = .instructionAddressMisaligned → ∃ v, r.value = some v ∧ jumpTarget i s = some v ∧ ¬FourAligned v) ∧
    ((r.exc = .loadAddressMisaligned ∨ r.exc = .loadAccessFault ∨ r.exc = .storeAddressMisaligned ∨
      r.exc = .storeAccessFault) → r.value = accessAddress i s ∧ r.value ≠ none) ∧
    r.exc ≠ .instructionAccessFault

/-- An instruction adds 1 to instret exactly when it completes without an exception (10_state.md R32, 60_exceptions.md
R510). Rests on the spec's own decisions D4, D15, D20 (92_eei_decisions.md). -/
def Obligations.InstretCountsExactlyTheRetired : Prop :=
  ∀ (i : Instr) (s t : State), s.trap = none → s.instret ≠ BitVec.allOnes 64 → exec i s = .next t →
    t.instret = (if t.trap.isNone then s.instret + 1#64 else s.instret) ∧ t.cycle = s.cycle ∧ t.time = s.time

/-- No step decreases cycle or time, nor instret away from its largest value (10_state.md R30, 10_state.md R31,
10_state.md R32). Rests on the spec's own decisions D15 (92_eei_decisions.md). -/
def Obligations.CountersNeverDecreaseOverAStep : Prop :=
  ∀ s t : State, step s = .next t → s.cycle.toNat ≤ t.cycle.toNat ∧ s.time.toNat ≤ t.time.toNat ∧
    (s.instret ≠ BitVec.allOnes 64 → s.instret.toNat ≤ t.instret.toNat)

/-- Executing changes no register but the destination, and x0 never (10_state.md R21, 10_state.md R22,
40_integer_computational.md R200). -/
def Obligations.OnlyTheDestinationRegisterChanges : Prop :=
  ∀ (i : Instr) (s t : State), exec i s = .next t →
    (∀ q, readX t q ≠ readX s q → destination i = some q ∧ q ≠ 0#5) ∧ readX t 0#5 = 0#32

/-- Executing changes memory only in the three stores, and stale only there and in FENCE.I (10_state.md R37,
42_load_store.md R260, 43_fence.md R281). Rests on the spec's own decisions D13 (92_eei_decisions.md). Inference the
spec marks as its own: R260. -/
def Obligations.OnlyStoresChangeMemory : Prop :=
  ∀ (i : Instr) (s t : State), exec i s = .next t → isStore i = false →
    (∀ a, byteAt t a = byteAt s a) ∧ (t.stale = s.stale ∨ (i = .fenceI ∧ t.stale = []))

/-- x0 always reads zero and a write to it changes nothing; any other register holds what was written (10_state.md
R21, 10_state.md R20). -/
def Obligations.RegisterZeroReadsZeroAndDiscardsWrites : Prop :=
  ∀ (s : State) (v : Word), readX s 0#5 = 0#32 ∧ writeX s 0#5 v = s ∧
    ∀ r q : Reg, r ≠ 0#5 → readX (writeX s r v) q = (if q = r then v else readX s q) ∧ SameMemory s (writeX s r v)

/-- LUI writes its immediate over twelve zeros; AUIPC adds that to its own address (R211, R212). -/
def Obligations.UpperImmediateResults : Prop :=
  ∀ (s : State) (rd : Reg) (imm : BitVec 20),
    (decode (imm ++ rd ++ 0b0110111#7) =
      .ok (.lui rd imm)) ∧
    (decode (imm ++ rd ++ 0b0010111#7) =
      .ok (.auipc rd imm)) ∧
    Writes s (exec (.lui rd imm) s) rd (imm ++ 0#12) ∧
    Writes s (exec (.auipc rd imm) s) rd (s.pc + (imm ++ 0#12))

/-- ADDI, SLTI, SLTIU, ANDI, ORI and XORI write the result of their rule (R202, R203, R204, R205, R206, R207). -/
def Obligations.RegisterImmediateResults : Prop :=
  ∀ (s : State) (rd rs1 : Reg) (imm : BitVec 12),
    (decode (imm ++ rs1 ++ 0b000#3 ++ rd ++ 0b0010011#7) =
      .ok (.addi rd rs1 imm)) ∧
    (decode (imm ++ rs1 ++ 0b010#3 ++ rd ++ 0b0010011#7) =
      .ok (.slti rd rs1 imm)) ∧
    (decode (imm ++ rs1 ++ 0b011#3 ++ rd ++ 0b0010011#7) =
      .ok (.sltiu rd rs1 imm)) ∧
    (decode (imm ++ rs1 ++ 0b111#3 ++ rd ++ 0b0010011#7) =
      .ok (.andi rd rs1 imm)) ∧
    (decode (imm ++ rs1 ++ 0b110#3 ++ rd ++ 0b0010011#7) =
      .ok (.ori rd rs1 imm)) ∧
    (decode (imm ++ rs1 ++ 0b100#3 ++ rd ++ 0b0010011#7) =
      .ok (.xori rd rs1 imm)) ∧
    Writes s (exec (.addi rd rs1 imm) s) rd (readX s rs1 + imm.signExtend 32) ∧
    Writes s (exec (.slti rd rs1 imm) s) rd (if (readX s rs1).toInt < (imm.signExtend 32).toInt then 1#32 else 0#32) ∧
    Writes s (exec (.sltiu rd rs1 imm) s) rd (if (readX s rs1).toNat < (imm.signExtend 32).toNat then 1#32 else 0#32) ∧
    Writes s (exec (.andi rd rs1 imm) s) rd (readX s rs1 &&& imm.signExtend 32) ∧
    Writes s (exec (.ori rd rs1 imm) s) rd (readX s rs1 ||| imm.signExtend 32) ∧
    Writes s (exec (.xori rd rs1 imm) s) rd (readX s rs1 ^^^ imm.signExtend 32)

/-- SLLI, SRLI and SRAI shift by the shamt field (R208, R209, R210). -/
def Obligations.ConstantShiftResults : Prop :=
  ∀ (s : State) (rd rs1 : Reg) (shamt : BitVec 5),
    (decode (0b0000000#7 ++ shamt ++ rs1 ++ 0b001#3 ++ rd ++ 0b0010011#7) =
      .ok (.slli rd rs1 shamt)) ∧
    (decode (0b0000000#7 ++ shamt ++ rs1 ++ 0b101#3 ++ rd ++ 0b0010011#7) =
      .ok (.srli rd rs1 shamt)) ∧
    (decode (0b0100000#7 ++ shamt ++ rs1 ++ 0b101#3 ++ rd ++ 0b0010011#7) =
      .ok (.srai rd rs1 shamt)) ∧
    ∃ l r a : Word,
    Writes s (exec (.slli rd rs1 shamt) s) rd (l) ∧ Writes s (exec (.srli rd rs1 shamt) s) rd (r) ∧
    Writes s (exec (.srai rd rs1 shamt) s) rd (a) ∧
    (∀ k, k < 32 → l.getLsbD k = (if k < shamt.toNat then false else (readX s rs1).getLsbD (k - shamt.toNat))) ∧
    (∀ k, k < 32 → r.getLsbD k = (if k + shamt.toNat < 32 then (readX s rs1).getLsbD (k + shamt.toNat) else false)) ∧
    (∀ k, k < 32 → a.getLsbD k =
      (if k + shamt.toNat < 32 then (readX s rs1).getLsbD (k + shamt.toNat) else (readX s rs1).getLsbD 31))

/-- ADD, SUB, SLT, SLTU, AND, OR and XOR write the result of their rule (R213, R214, R215, R216, R217, R218, R219). -/
def Obligations.RegisterRegisterResults : Prop :=
  ∀ (s : State) (rd rs1 rs2 : Reg),
    (decode (0b0000000#7 ++ rs2 ++ rs1 ++ 0b000#3 ++ rd ++ 0b0110011#7) =
      .ok (.add rd rs1 rs2)) ∧
    (decode (0b0100000#7 ++ rs2 ++ rs1 ++ 0b000#3 ++ rd ++ 0b0110011#7) =
      .ok (.sub rd rs1 rs2)) ∧
    (decode (0b0000000#7 ++ rs2 ++ rs1 ++ 0b010#3 ++ rd ++ 0b0110011#7) =
      .ok (.slt rd rs1 rs2)) ∧
    (decode (0b0000000#7 ++ rs2 ++ rs1 ++ 0b011#3 ++ rd ++ 0b0110011#7) =
      .ok (.sltu rd rs1 rs2)) ∧
    (decode (0b0000000#7 ++ rs2 ++ rs1 ++ 0b111#3 ++ rd ++ 0b0110011#7) =
      .ok (.and rd rs1 rs2)) ∧
    (decode (0b0000000#7 ++ rs2 ++ rs1 ++ 0b110#3 ++ rd ++ 0b0110011#7) =
      .ok (.or rd rs1 rs2)) ∧
    (decode (0b0000000#7 ++ rs2 ++ rs1 ++ 0b100#3 ++ rd ++ 0b0110011#7) =
      .ok (.xor rd rs1 rs2)) ∧
    Writes s (exec (.add rd rs1 rs2) s) rd (readX s rs1 + readX s rs2) ∧
    Writes s (exec (.sub rd rs1 rs2) s) rd (readX s rs1 - readX s rs2) ∧
    Writes s (exec (.slt rd rs1 rs2) s) rd (if (readX s rs1).toInt < (readX s rs2).toInt then 1#32 else 0#32) ∧
    Writes s (exec (.sltu rd rs1 rs2) s) rd (if (readX s rs1).toNat < (readX s rs2).toNat then 1#32 else 0#32) ∧
    Writes s (exec (.and rd rs1 rs2) s) rd (readX s rs1 &&& readX s rs2) ∧
    Writes s (exec (.or rd rs1 rs2) s) rd (readX s rs1 ||| readX s rs2) ∧
    Writes s (exec (.xor rd rs1 rs2) s) rd (readX s rs1 ^^^ readX s rs2)

/-- SLL, SRL and SRA shift by the low five bits of x[rs2] (R220, R221, R222). -/
def Obligations.RegisterShiftResults : Prop :=
  ∀ (s : State) (rd rs1 rs2 : Reg),
    (decode (0b0000000#7 ++ rs2 ++ rs1 ++ 0b001#3 ++ rd ++ 0b0110011#7) =
      .ok (.sll rd rs1 rs2)) ∧
    (decode (0b0000000#7 ++ rs2 ++ rs1 ++ 0b101#3 ++ rd ++ 0b0110011#7) =
      .ok (.srl rd rs1 rs2)) ∧
    (decode (0b0100000#7 ++ rs2 ++ rs1 ++ 0b101#3 ++ rd ++ 0b0110011#7) =
      .ok (.sra rd rs1 rs2)) ∧
    ∃ l r a : Word,
    Writes s (exec (.sll rd rs1 rs2) s) rd (l) ∧ Writes s (exec (.srl rd rs1 rs2) s) rd (r) ∧
    Writes s (exec (.sra rd rs1 rs2) s) rd (a) ∧
    (∀ k, k < 32 → l.getLsbD k = (if k < (readX s rs2).toNat % 32 then false
      else (readX s rs1).getLsbD (k - (readX s rs2).toNat % 32))) ∧
    (∀ k, k < 32 → r.getLsbD k = (if k + (readX s rs2).toNat % 32 < 32
      then (readX s rs1).getLsbD (k + (readX s rs2).toNat % 32) else false)) ∧
    (∀ k, k < 32 → a.getLsbD k = (if k + (readX s rs2).toNat % 32 < 32
      then (readX s rs1).getLsbD (k + (readX s rs2).toNat % 32) else (readX s rs1).getLsbD 31))

/-- SRAI and SRA divide the signed value by a power of two, rounding down (40_integer_computational.md R210,
40_integer_computational.md R222). Inference the spec marks as its own: R210. -/
def Obligations.ArithmeticRightShiftIsFloorDivision : Prop :=
  ∀ (s : State) (rd rs1 rs2 : Reg) (shamt : BitVec 5), ∃ v u : Word,
    Writes s (exec (.srai rd rs1 shamt) s) rd (v) ∧ v.toInt = (readX s rs1).toInt / 2 ^ shamt.toNat ∧
    Writes s (exec (.sra rd rs1 rs2) s) rd (u) ∧ u.toInt = (readX s rs1).toInt / 2 ^ ((readX s rs2).toNat % 32)

/-- The overflow-check sequences branch exactly when the addition overflowed (40_integer_computational.md R224). -/
def Obligations.OverflowChecksBranchExactlyOnOverflow : Prop :=
  ∀ (s : State) (off : BitVec 13), s.trap = none → FourAligned (s.pc + 4#32 + off.signExtend 32) →
    (∃ t, runAll (overflowUnsignedAdd off) s = .next t ∧ t.trap = none ∧
      t.pc = if 4294967296 ≤ (readX s 6#5).toNat + (readX s 7#5).toNat then s.pc + 4#32 + off.signExtend 32
        else s.pc + 8#32) ∧
    (∀ imm : BitVec 12, 0 < imm.toInt → ∃ t, runAll (overflowAddImmediate imm off) s = .next t ∧ t.trap = none ∧
      t.pc = if 2147483648 ≤ (readX s 6#5).toInt + imm.toInt then s.pc + 4#32 + off.signExtend 32 else s.pc + 8#32) ∧
    (∃ t, runAll (overflowSignedAdd off) s = .next t ∧ t.trap = none ∧
      t.pc = if (readX s 6#5).toInt + (readX s 7#5).toInt < -2147483648 ∨
          2147483648 ≤ (readX s 6#5).toInt + (readX s 7#5).toInt then s.pc + 12#32 + off.signExtend 32
        else s.pc + 16#32)

/-- JAL jumps to pc plus its offset and links pc + 4, or traps on a misaligned target (41_control_transfer.md R241,
41_control_transfer.md R243, 60_exceptions.md R510). That the trap leaves every register and pc as they were is R243's
own reading of the manual, not its words. Rests on the spec's own decisions D2, D4, D15, D19, D20
(92_eei_decisions.md). -/
def Obligations.JumpAndLinkResults : Prop :=
  ∀ (s : State) (rd : Reg) (off : BitVec 21),
    (off.getLsbD 0 = false → decode (off.extractLsb' 20 1 ++ off.extractLsb' 1 10 ++ off.extractLsb' 11 1 ++ off.extractLsb' 12 8 ++ rd ++ 0b1101111#7) =
      .ok (.jal rd off)) ∧
    Jumps s (exec (.jal rd off) s) rd (s.pc + off.signExtend 32)

/-- JALR jumps to x[rs1] plus its immediate with bit 0 cleared, also when rd is rs1 (41_control_transfer.md R242,
41_control_transfer.md R243, 60_exceptions.md R510, 30_encoding.md R120). That the trap leaves every register and pc
as they were is R243's own reading of the manual, not its words; that a word with another funct3 is an illegal
instruction is the decision D6 of R120. Rests on the spec's own decisions D2, D4, D6, D15, D19, D20
(92_eei_decisions.md). -/
def Obligations.JumpAndLinkRegisterResults : Prop :=
  ∀ (s : State) (rd rs1 : Reg) (imm : BitVec 12),
    (decode (imm ++ rs1 ++ 0b000#3 ++ rd ++ 0b1100111#7) =
      .ok (.jalr rd rs1 imm)) ∧
    Jumps s (exec (.jalr rd rs1 imm) s) rd ((readX s rs1 + imm.signExtend 32) &&& 0xFFFFFFFE#32) ∧
    ∀ w : Word, HasOpcode w 0b1100111#7 → w.extractLsb' 12 3 ≠ 0b000#3 →
      Traps s (runWord w s) .illegalInstruction (some w)

/-- The six branches compare two registers, and trap only when taken to a misaligned target (41_control_transfer.md
R244, 41_control_transfer.md R245, 41_control_transfer.md R246, 41_control_transfer.md R247, 41_control_transfer.md
R248, 41_control_transfer.md R249, 41_control_transfer.md R250, 41_control_transfer.md R243, 60_exceptions.md R510).
The comparisons are R244 to R249's; the target, the trap and the fall-through are R250's; that the trap leaves every
register and pc as they were is R243's own reading of the manual. Rests on the spec's own decisions D2, D4, D15, D19,
D20 (92_eei_decisions.md). -/
def Obligations.BranchResults : Prop :=
  ∀ (s : State) (rs1 rs2 : Reg) (off : BitVec 13),
    (off.getLsbD 0 = false → decode (off.extractLsb' 12 1 ++ off.extractLsb' 5 6 ++ rs2 ++ rs1 ++ 0b000#3 ++ off.extractLsb' 1 4 ++ off.extractLsb' 11 1 ++ 0b1100011#7) =
      .ok (.beq rs1 rs2 off)) ∧
    (off.getLsbD 0 = false → decode (off.extractLsb' 12 1 ++ off.extractLsb' 5 6 ++ rs2 ++ rs1 ++ 0b001#3 ++ off.extractLsb' 1 4 ++ off.extractLsb' 11 1 ++ 0b1100011#7) =
      .ok (.bne rs1 rs2 off)) ∧
    (off.getLsbD 0 = false → decode (off.extractLsb' 12 1 ++ off.extractLsb' 5 6 ++ rs2 ++ rs1 ++ 0b100#3 ++ off.extractLsb' 1 4 ++ off.extractLsb' 11 1 ++ 0b1100011#7) =
      .ok (.blt rs1 rs2 off)) ∧
    (off.getLsbD 0 = false → decode (off.extractLsb' 12 1 ++ off.extractLsb' 5 6 ++ rs2 ++ rs1 ++ 0b101#3 ++ off.extractLsb' 1 4 ++ off.extractLsb' 11 1 ++ 0b1100011#7) =
      .ok (.bge rs1 rs2 off)) ∧
    (off.getLsbD 0 = false → decode (off.extractLsb' 12 1 ++ off.extractLsb' 5 6 ++ rs2 ++ rs1 ++ 0b110#3 ++ off.extractLsb' 1 4 ++ off.extractLsb' 11 1 ++ 0b1100011#7) =
      .ok (.bltu rs1 rs2 off)) ∧
    (off.getLsbD 0 = false → decode (off.extractLsb' 12 1 ++ off.extractLsb' 5 6 ++ rs2 ++ rs1 ++ 0b111#3 ++ off.extractLsb' 1 4 ++ off.extractLsb' 11 1 ++ 0b1100011#7) =
      .ok (.bgeu rs1 rs2 off)) ∧
    Branches s (exec (.beq rs1 rs2 off) s) (readX s rs1 = readX s rs2) off ∧
    Branches s (exec (.bne rs1 rs2 off) s) (readX s rs1 ≠ readX s rs2) off ∧
    Branches s (exec (.blt rs1 rs2 off) s) ((readX s rs1).toInt < (readX s rs2).toInt) off ∧
    Branches s (exec (.bge rs1 rs2 off) s) ((readX s rs1).toInt ≥ (readX s rs2).toInt) off ∧
    Branches s (exec (.bltu rs1 rs2 off) s) ((readX s rs1).toNat < (readX s rs2).toNat) off ∧
    Branches s (exec (.bgeu rs1 rs2 off) s) ((readX s rs1).toNat ≥ (readX s rs2).toNat) off

/-- LB, LH, LW, LBU and LHU write the little-endian bytes at their address, extended as their rule says
(42_load_store.md R261, 42_load_store.md R262, 42_load_store.md R263, 42_load_store.md R264, 42_load_store.md R265,
20_memory.md R68). Inference the spec marks as its own: R68. -/
def Obligations.LoadResults : Prop :=
  ∀ (s : State) (rd rs1 : Reg) (imm : BitVec 12),
    (AlignmentServed s (readX s rs1 + imm.signExtend 32) 1 → LegalFor s .load (readX s rs1 + imm.signExtend 32) 1 →
      Writes s (exec (.lb rd rs1 imm) s) rd ((byteAt s (readX s rs1 + imm.signExtend 32)).signExtend 32)) ∧
    (AlignmentServed s (readX s rs1 + imm.signExtend 32) 1 → LegalFor s .load (readX s rs1 + imm.signExtend 32) 1 →
      Writes s (exec (.lbu rd rs1 imm) s) rd ((byteAt s (readX s rs1 + imm.signExtend 32)).setWidth 32)) ∧
    (AlignmentServed s (readX s rs1 + imm.signExtend 32) 2 → LegalFor s .load (readX s rs1 + imm.signExtend 32) 2 →
      Writes s (exec (.lh rd rs1 imm) s) rd ((byteAt s (readX s rs1 + imm.signExtend 32 + 1#32) ++ byteAt s (readX s rs1 + imm.signExtend 32)).signExtend 32)) ∧
    (AlignmentServed s (readX s rs1 + imm.signExtend 32) 2 → LegalFor s .load (readX s rs1 + imm.signExtend 32) 2 →
      Writes s (exec (.lhu rd rs1 imm) s) rd ((byteAt s (readX s rs1 + imm.signExtend 32 + 1#32) ++ byteAt s (readX s rs1 + imm.signExtend 32)).setWidth 32)) ∧
    (AlignmentServed s (readX s rs1 + imm.signExtend 32) 4 → LegalFor s .load (readX s rs1 + imm.signExtend 32) 4 →
      Writes s (exec (.lw rd rs1 imm) s) rd (byteAt s (readX s rs1 + imm.signExtend 32 + 3#32) ++ byteAt s (readX s rs1 + imm.signExtend 32 + 2#32) ++
        byteAt s (readX s rs1 + imm.signExtend 32 + 1#32) ++ byteAt s (readX s rs1 + imm.signExtend 32)))

/-- SB, SH and SW store the low bytes of x[rs2] at their address and nowhere else, and mark them stale
(42_load_store.md R266, 42_load_store.md R267, 42_load_store.md R268, 20_memory.md R69). Inference the spec marks as
its own: R69. -/
def Obligations.StoreResults : Prop :=
  ∀ (s : State) (rs1 rs2 : Reg) (imm : BitVec 12),
    (AlignmentServed s (readX s rs1 + imm.signExtend 32) 1 → LegalFor s .store (readX s rs1 + imm.signExtend 32) 1 →
      StoresBytes s (exec (.sb rs1 rs2 imm) s) (readX s rs1 + imm.signExtend 32) 1 (readX s rs2)) ∧
    (AlignmentServed s (readX s rs1 + imm.signExtend 32) 2 → LegalFor s .store (readX s rs1 + imm.signExtend 32) 2 →
      StoresBytes s (exec (.sh rs1 rs2 imm) s) (readX s rs1 + imm.signExtend 32) 2 (readX s rs2)) ∧
    (AlignmentServed s (readX s rs1 + imm.signExtend 32) 4 → LegalFor s .store (readX s rs1 + imm.signExtend 32) 4 →
      StoresBytes s (exec (.sw rs1 rs2 imm) s) (readX s rs1 + imm.signExtend 32) 4 (readX s rs2))

/-- A load or store traps on a misaligned address first, then on an illegal byte, and changes nothing
(42_load_store.md R270). The parameters are those of log 6 and log 7. Rests on the spec's own decisions D8, D9, D24
(92_eei_decisions.md). -/
def Obligations.LoadAndStoreExceptions : Prop :=
  ∀ (s : State) (rd rs1 rs2 : Reg) (imm : BitVec 12),
    (AlignmentServed s (readX s rs1 + imm.signExtend 32) 1 → ¬LegalFor s .load (readX s rs1 + imm.signExtend 32) 1 →
      Traps s (exec (.lb rd rs1 imm) s) .loadAccessFault (some (readX s rs1 + imm.signExtend 32))) ∧
    (AlignmentServed s (readX s rs1 + imm.signExtend 32) 1 → LegalFor s .load (readX s rs1 + imm.signExtend 32) 1 →
      ∃ t, exec (.lb rd rs1 imm) s = .next t ∧ t.trap = s.trap) ∧
    (AlignmentServed s (readX s rs1 + imm.signExtend 32) 1 → ¬LegalFor s .load (readX s rs1 + imm.signExtend 32) 1 →
      Traps s (exec (.lbu rd rs1 imm) s) .loadAccessFault (some (readX s rs1 + imm.signExtend 32))) ∧
    (AlignmentServed s (readX s rs1 + imm.signExtend 32) 1 → LegalFor s .load (readX s rs1 + imm.signExtend 32) 1 →
      ∃ t, exec (.lbu rd rs1 imm) s = .next t ∧ t.trap = s.trap) ∧
    (¬AlignmentServed s (readX s rs1 + imm.signExtend 32) 2 →
      Traps s (exec (.lh rd rs1 imm) s) .loadAddressMisaligned (some (readX s rs1 + imm.signExtend 32))) ∧
    (AlignmentServed s (readX s rs1 + imm.signExtend 32) 2 → ¬LegalFor s .load (readX s rs1 + imm.signExtend 32) 2 →
      Traps s (exec (.lh rd rs1 imm) s) .loadAccessFault (some (readX s rs1 + imm.signExtend 32))) ∧
    (AlignmentServed s (readX s rs1 + imm.signExtend 32) 2 → LegalFor s .load (readX s rs1 + imm.signExtend 32) 2 →
      ∃ t, exec (.lh rd rs1 imm) s = .next t ∧ t.trap = s.trap) ∧
    (¬AlignmentServed s (readX s rs1 + imm.signExtend 32) 2 →
      Traps s (exec (.lhu rd rs1 imm) s) .loadAddressMisaligned (some (readX s rs1 + imm.signExtend 32))) ∧
    (AlignmentServed s (readX s rs1 + imm.signExtend 32) 2 → ¬LegalFor s .load (readX s rs1 + imm.signExtend 32) 2 →
      Traps s (exec (.lhu rd rs1 imm) s) .loadAccessFault (some (readX s rs1 + imm.signExtend 32))) ∧
    (AlignmentServed s (readX s rs1 + imm.signExtend 32) 2 → LegalFor s .load (readX s rs1 + imm.signExtend 32) 2 →
      ∃ t, exec (.lhu rd rs1 imm) s = .next t ∧ t.trap = s.trap) ∧
    (¬AlignmentServed s (readX s rs1 + imm.signExtend 32) 4 →
      Traps s (exec (.lw rd rs1 imm) s) .loadAddressMisaligned (some (readX s rs1 + imm.signExtend 32))) ∧
    (AlignmentServed s (readX s rs1 + imm.signExtend 32) 4 → ¬LegalFor s .load (readX s rs1 + imm.signExtend 32) 4 →
      Traps s (exec (.lw rd rs1 imm) s) .loadAccessFault (some (readX s rs1 + imm.signExtend 32))) ∧
    (AlignmentServed s (readX s rs1 + imm.signExtend 32) 4 → LegalFor s .load (readX s rs1 + imm.signExtend 32) 4 →
      ∃ t, exec (.lw rd rs1 imm) s = .next t ∧ t.trap = s.trap) ∧
    (AlignmentServed s (readX s rs1 + imm.signExtend 32) 1 → ¬LegalFor s .store (readX s rs1 + imm.signExtend 32) 1 →
      Traps s (exec (.sb rs1 rs2 imm) s) .storeAccessFault (some (readX s rs1 + imm.signExtend 32))) ∧
    (AlignmentServed s (readX s rs1 + imm.signExtend 32) 1 → LegalFor s .store (readX s rs1 + imm.signExtend 32) 1 →
      ∃ t, exec (.sb rs1 rs2 imm) s = .next t ∧ t.trap = s.trap) ∧
    (¬AlignmentServed s (readX s rs1 + imm.signExtend 32) 2 →
      Traps s (exec (.sh rs1 rs2 imm) s) .storeAddressMisaligned (some (readX s rs1 + imm.signExtend 32))) ∧
    (AlignmentServed s (readX s rs1 + imm.signExtend 32) 2 → ¬LegalFor s .store (readX s rs1 + imm.signExtend 32) 2 →
      Traps s (exec (.sh rs1 rs2 imm) s) .storeAccessFault (some (readX s rs1 + imm.signExtend 32))) ∧
    (AlignmentServed s (readX s rs1 + imm.signExtend 32) 2 → LegalFor s .store (readX s rs1 + imm.signExtend 32) 2 →
      ∃ t, exec (.sh rs1 rs2 imm) s = .next t ∧ t.trap = s.trap) ∧
    (¬AlignmentServed s (readX s rs1 + imm.signExtend 32) 4 →
      Traps s (exec (.sw rs1 rs2 imm) s) .storeAddressMisaligned (some (readX s rs1 + imm.signExtend 32))) ∧
    (AlignmentServed s (readX s rs1 + imm.signExtend 32) 4 → ¬LegalFor s .store (readX s rs1 + imm.signExtend 32) 4 →
      Traps s (exec (.sw rs1 rs2 imm) s) .storeAccessFault (some (readX s rs1 + imm.signExtend 32))) ∧
    (AlignmentServed s (readX s rs1 + imm.signExtend 32) 4 → LegalFor s .store (readX s rs1 + imm.signExtend 32) 4 →
      ∃ t, exec (.sw rs1 rs2 imm) s = .next t ∧ t.trap = s.trap)

/-- A load to x0 raises what the load to any register raises, and otherwise only advances (42_load_store.md R269). -/
def Obligations.LoadsToRegisterZeroStillAccess : Prop :=
  ∀ (s : State) (rs1 : Reg) (imm : BitVec 12) (load : Reg → Instr),
    load ∈ ([fun rd => .lb rd rs1 imm, fun rd => .lh rd rs1 imm, fun rd => .lw rd rs1 imm, fun rd => .lbu rd rs1 imm,
      fun rd => .lhu rd rs1 imm] : List (Reg → Instr)) → s.trap = none →
    ∃ t, exec (load 0#5) s = .next t ∧
      (t.trap = none → OnlyGoesTo s (exec (load 0#5) s) (s.pc + 4#32)) ∧
      ∀ rd : Reg, ∃ u, exec (load rd) s = .next u ∧ u.trap = t.trap

/-- After SW, a load of any width within its bytes gives the stored bytes, least significant first (20_memory.md R61,
20_memory.md R75, 42_load_store.md R261, 42_load_store.md R262, 42_load_store.md R263, 42_load_store.md R264,
42_load_store.md R265, 70_reset_and_hazards.md R558). Where a misaligned load is served is a parameter (log 6, log 7).
Rests on the spec's own decisions D11, D12 (92_eei_decisions.md). Inference the spec marks as its own: R61. -/
def Obligations.LoadAfterStoreSeesTheStoredBytes : Prop :=
  ∀ (s t : State) (rs1 rs2 : Reg) (imm : BitVec 12), s.trap = none → exec (.sw rs1 rs2 imm) s = .next t → t.trap = none →
    mem32 t (readX s rs1 + imm.signExtend 32) = readX s rs2 ∧
    (∀ i, i < 4 → byteAt t (readX s rs1 + imm.signExtend 32 + BitVec.ofNat 32 i) = (readX s rs2).extractLsb' (8 * i) 8) ∧
    (∀ i, i < 3 → mem16 t (readX s rs1 + imm.signExtend 32 + BitVec.ofNat 32 i) = (readX s rs2).extractLsb' (8 * i) 16) ∧
    ∀ (rd base : Reg) (off : BitVec 12) (i : Nat),
      readX t base + off.signExtend 32 = readX s rs1 + imm.signExtend 32 + BitVec.ofNat 32 i →
      (i < 4 → LegalFor t .load (readX t base + off.signExtend 32) 1 →
        Writes t (exec (.lb rd base off) t) rd (((readX s rs2).extractLsb' (8 * i) 8).signExtend 32) ∧
        Writes t (exec (.lbu rd base off) t) rd (((readX s rs2).extractLsb' (8 * i) 8).setWidth 32)) ∧
      (i < 3 → AlignmentServed t (readX t base + off.signExtend 32) 2 →
        LegalFor t .load (readX t base + off.signExtend 32) 2 →
        Writes t (exec (.lh rd base off) t) rd (((readX s rs2).extractLsb' (8 * i) 16).signExtend 32) ∧
        Writes t (exec (.lhu rd base off) t) rd (((readX s rs2).extractLsb' (8 * i) 16).setWidth 32)) ∧
      (i = 0 → AlignmentServed t (readX t base + off.signExtend 32) 4 →
        LegalFor t .load (readX t base + off.signExtend 32) 4 →
        Writes t (exec (.lw rd base off) t) rd (readX s rs2))

/-- FENCE with any pred and succ changes nothing but pc and the count of retired instructions (43_fence.md R280).
Rests on the spec's own decisions D12 (92_eei_decisions.md). -/
def Obligations.FenceOnlyRetires : Prop :=
  ∀ (s : State) (pred succ : BitVec 4), OnlyGoesTo s (exec (.fence pred succ) s) (s.pc + 4#32)

/-- FENCE.I empties stale and changes nothing else but pc and the count of retired instructions (43_fence.md R281).
Rests on the spec's own decisions D13 (92_eei_decisions.md). -/
def Obligations.FenceIEmptiesStale : Prop :=
  ∀ s : State, ∃ t, exec .fenceI s = .next t ∧ t.stale = [] ∧ SameRegisters s t ∧ (∀ a, byteAt t a = byteAt s a) ∧
    Retires s t (s.pc + 4#32)

/-- After a store its bytes cannot be fetched until FENCE.I has executed; FENCE does not help (20_memory.md R78,
20_memory.md R69, 20_memory.md R70, 70_reset_and_hazards.md R557, 43_fence.md R280, 43_fence.md R281). How a stale
fetch is refused is the model's choice (log 14). Rests on the spec's own decisions D12, D13 (92_eei_decisions.md).
Inference the spec marks as its own: R69, R70. -/
def Obligations.StoredBytesAreFetchableOnlyAfterFenceI : Prop :=
  ∀ (s t : State) (i : Instr) (ea : Word), isStore i = true → accessAddress i s = some ea → s.trap = none →
    exec i s = .next t → t.trap = none →
    (∀ k, k < storeWidth i → (ea + BitVec.ofNat 32 k).toNat ∈ t.stale) ∧
    (∀ pred succ, ∃ u, exec (.fence pred succ) t = .next u ∧ u.stale = t.stale) ∧
    (∀ u : State, (u = t ∨ ∃ pred succ, exec (.fence pred succ) t = .next u) →
      ∀ (target : Word) (k j : Nat), k < storeWidth i → j < 4 →
        target + BitVec.ofNat 32 j = ea + BitVec.ofNat 32 k → LegalFor u .fetch target 4 →
        fetch { u with pc := target } = .stale ∧
        (FourAligned target → step { u with pc := target } = .refused (.staleFetch target))) ∧
    ∃ u, exec .fenceI t = .next u ∧ ∀ target : Word, fetch { u with pc := target } ≠ .stale

/-- The six CSR instructions read the six counter windows or trap, row by row of the outcome table (44_csr_counters.md
R302, 44_csr_counters.md R290 to R296). The recorded value is the word of the instruction (log 20). Rests on the
spec's own decisions D14 (92_eei_decisions.md). Inference the spec marks as its own: R302. -/
def Obligations.CsrOutcomeTable : Prop :=
  ∀ (s : State) (rd : Reg) (csr : BitVec 12) (r u : BitVec 5),
    (csr ∉ ([0xC00#12, 0xC01#12, 0xC02#12, 0xC80#12, 0xC81#12, 0xC82#12] : List (BitVec 12)) →
      Traps s (exec (.csrrw rd csr r) s) .illegalInstruction (some (encode (.csrrw rd csr r))) ∧
      Traps s (exec (.csrrs rd csr r) s) .illegalInstruction (some (encode (.csrrs rd csr r))) ∧
      Traps s (exec (.csrrc rd csr r) s) .illegalInstruction (some (encode (.csrrc rd csr r))) ∧
      Traps s (exec (.csrrwi rd csr u) s) .illegalInstruction (some (encode (.csrrwi rd csr u))) ∧
      Traps s (exec (.csrrsi rd csr u) s) .illegalInstruction (some (encode (.csrrsi rd csr u))) ∧
      Traps s (exec (.csrrci rd csr u) s) .illegalInstruction (some (encode (.csrrci rd csr u)))) ∧
    (Traps s (exec (.csrrw rd csr r) s) .illegalInstruction (some (encode (.csrrw rd csr r))) ∧
      Traps s (exec (.csrrwi rd csr u) s) .illegalInstruction (some (encode (.csrrwi rd csr u)))) ∧
    (r ≠ 0#5 → Traps s (exec (.csrrs rd csr r) s) .illegalInstruction (some (encode (.csrrs rd csr r))) ∧
      Traps s (exec (.csrrc rd csr r) s) .illegalInstruction (some (encode (.csrrc rd csr r)))) ∧
    (u ≠ 0#5 → Traps s (exec (.csrrsi rd csr u) s) .illegalInstruction (some (encode (.csrrsi rd csr u))) ∧
      Traps s (exec (.csrrci rd csr u) s) .illegalInstruction (some (encode (.csrrci rd csr u)))) ∧
    (∀ c, (csr = 0xC00#12 ∧ c = s.cycle.extractLsb' 0 32) ∨ (csr = 0xC01#12 ∧ c = s.time.extractLsb' 0 32) ∨
        (csr = 0xC02#12 ∧ c = s.instret.extractLsb' 0 32) ∨ (csr = 0xC80#12 ∧ c = s.cycle.extractLsb' 32 32) ∨
        (csr = 0xC81#12 ∧ c = s.time.extractLsb' 32 32) ∨ (csr = 0xC82#12 ∧ c = s.instret.extractLsb' 32 32) →
      Writes s (exec (.csrrs rd csr 0#5) s) rd c ∧ Writes s (exec (.csrrc rd csr 0#5) s) rd c ∧
      Writes s (exec (.csrrsi rd csr 0#5) s) rd c ∧ Writes s (exec (.csrrci rd csr 0#5) s) rd c)

/-- RDCYCLE, RDTIME, RDINSTRET and their H forms read the low and the high half of their counter (44_csr_counters.md
R298, 44_csr_counters.md R299, 44_csr_counters.md R300). -/
def Obligations.CounterPseudoInstructionsRead : Prop :=
  ∀ (s : State) (rd : Reg),
    (∃ i, expandPseudo (.rdcycle rd) = [i] ∧ Writes s (exec i s) rd (s.cycle.extractLsb' 0 32)) ∧
    (∃ i, expandPseudo (.rdcycleh rd) = [i] ∧ Writes s (exec i s) rd (s.cycle.extractLsb' 32 32)) ∧
    (∃ i, expandPseudo (.rdtime rd) = [i] ∧ Writes s (exec i s) rd (s.time.extractLsb' 0 32)) ∧
    (∃ i, expandPseudo (.rdtimeh rd) = [i] ∧ Writes s (exec i s) rd (s.time.extractLsb' 32 32)) ∧
    (∃ i, expandPseudo (.rdinstret rd) = [i] ∧ Writes s (exec i s) rd (s.instret.extractLsb' 0 32)) ∧
    (∃ i, expandPseudo (.rdinstreth rd) = [i] ∧ Writes s (exec i s) rd (s.instret.extractLsb' 32 32))

/-- Under ENV_QUIET two consecutive reads of instret differ by exactly 1 (10_state.md R32, 44_csr_counters.md R297,
70_reset_and_hazards.md R559). Rests on the spec's own decisions D15 (92_eei_decisions.md). -/
def Obligations.ConsecutiveInstretReadsDifferByOne : Prop :=
  ∀ (s t u : State) (rd rd2 : Reg), s.cfg.envQuiet = true → s.instret ≠ BitVec.allOnes 64 → rd ≠ 0#5 → rd2 ≠ 0#5 →
    exec (.csrrs rd 0xC02#12 0#5) s = .next t → exec (.csrrs rd2 0xC02#12 0#5) (betweenSteps t) = .next u →
    readX u rd2 = readX t rd + 1#32

/-- If the two reads of the high half agree, high and low form a value the counter held at the low read
(44_csr_counters.md R301, 70_reset_and_hazards.md R560). Inference the spec marks as its own: R301. -/
def Obligations.HighLowHighReadIsConsistent : Prop :=
  ∀ a b c : State,
    (a.cycle.toNat ≤ b.cycle.toNat → b.cycle.toNat ≤ c.cycle.toNat → csrRead a .cycleh = csrRead c .cycleh →
      csrRead c .cycleh ++ csrRead b .cycle = b.cycle) ∧
    (a.time.toNat ≤ b.time.toNat → b.time.toNat ≤ c.time.toNat → csrRead a .timeh = csrRead c .timeh →
      csrRead c .timeh ++ csrRead b .time = b.time) ∧
    (a.instret.toNat ≤ b.instret.toNat → b.instret.toNat ≤ c.instret.toNat → csrRead a .instreth = csrRead c .instreth →
      csrRead c .instreth ++ csrRead b .instret = b.instret)

/-- ECALL and EBREAK hand control to the environment and change nothing (45_environment.md R320, 45_environment.md
R321). Rests on the spec's own decisions D4, D20, D25 (92_eei_decisions.md). -/
def Obligations.EnvironmentCallAndBreakpointTrap : Prop :=
  ∀ s : State, Traps s (exec .ecall s) .environmentCall none ∧ Traps s (exec .ebreak s) .breakpoint none

/-- MUL, MULH and MULHU write the low and the high halves of the exact products (46_m_extension.md R331,
46_m_extension.md R332, 46_m_extension.md R334). That MUL gives the same result for signed operands is an inference of
R331 that the spec marks as derived from arithmetic modulo 2^32. Inference the spec marks as its own: R331. -/
def Obligations.MultiplicationResults : Prop :=
  ∀ (s : State) (rd rs1 rs2 : Reg),
    (decode (0b0000001#7 ++ rs2 ++ rs1 ++ 0b000#3 ++ rd ++ 0b0110011#7) =
      .ok (.mul rd rs1 rs2)) ∧
    (decode (0b0000001#7 ++ rs2 ++ rs1 ++ 0b001#3 ++ rd ++ 0b0110011#7) =
      .ok (.mulh rd rs1 rs2)) ∧
    (decode (0b0000001#7 ++ rs2 ++ rs1 ++ 0b011#3 ++ rd ++ 0b0110011#7) =
      .ok (.mulhu rd rs1 rs2)) ∧
    ∃ l h u : Word,
    Writes s (exec (.mul rd rs1 rs2) s) rd (l) ∧ l.toNat = (readX s rs1).toNat * (readX s rs2).toNat % 4294967296 ∧
    (l.toNat : Int) = (readX s rs1).toInt * (readX s rs2).toInt % 4294967296 ∧
    Writes s (exec (.mulh rd rs1 rs2) s) rd (h) ∧ h.toInt = (readX s rs1).toInt * (readX s rs2).toInt / 4294967296 ∧
    Writes s (exec (.mulhu rd rs1 rs2) s) rd (u) ∧ u.toNat = (readX s rs1).toNat * (readX s rs2).toNat / 4294967296

/-- MULHSU writes the high half with rs1 signed; each high half over the low half is the whole product
(46_m_extension.md R333, 46_m_extension.md R340, 70_reset_and_hazards.md R561). That rs1 is the signed operand of
MULHSU is PRESUMED (log 21). Rests on the spec's own decisions D22 (92_eei_decisions.md). -/
def Obligations.HighAndLowHalvesMakeTheProduct : Prop :=
  (∀ (s : State) (rd rs1 rs2 : Reg), ∃ m : Word,
      Writes s (exec (.mulhsu rd rs1 rs2) s) rd (m) ∧
      m.toInt = (readX s rs1).toInt * ((readX s rs2).toNat : Int) / 4294967296) ∧
  ∀ a b : Word, (mulHighSS a b ++ mulLow a b).toInt = a.toInt * b.toInt ∧
    (mulHighSU a b ++ mulLow a b).toInt = a.toInt * (b.toNat : Int) ∧
    (mulHighUU a b ++ mulLow a b).toNat = a.toNat * b.toNat

/-- DIV, DIVU, REM and REMU follow Table 6.1 and otherwise divide exactly, rounding toward zero (46_m_extension.md
R335, 46_m_extension.md R336, 46_m_extension.md R337, 46_m_extension.md R338, 46_m_extension.md R339). The rounding
toward zero is PRESUMED (log 22). Rests on the spec's own decisions D21 (92_eei_decisions.md). -/
def Obligations.DivisionAndRemainderResults : Prop :=
  ∀ (s : State) (rd rs1 rs2 : Reg), ∃ q qu r ru : Word,
    Writes s (exec (.div rd rs1 rs2) s) rd (q) ∧ Writes s (exec (.divu rd rs1 rs2) s) rd (qu) ∧
    Writes s (exec (.rem rd rs1 rs2) s) rd (r) ∧ Writes s (exec (.remu rd rs1 rs2) s) rd (ru) ∧
    (readX s rs2 = 0#32 → q = 0xFFFFFFFF#32 ∧ qu = 0xFFFFFFFF#32 ∧ r = readX s rs1 ∧ ru = readX s rs1) ∧
    (readX s rs1 = 0x80000000#32 → readX s rs2 = 0xFFFFFFFF#32 → q = 0x80000000#32 ∧ r = 0#32) ∧
    (readX s rs2 ≠ 0#32 → ¬(readX s rs1 = 0x80000000#32 ∧ readX s rs2 = 0xFFFFFFFF#32) →
      (readX s rs1).toInt = (readX s rs2).toInt * q.toInt + r.toInt ∧
      r.toInt.natAbs < (readX s rs2).toInt.natAbs ∧ q.toInt = (readX s rs1).toInt.tdiv (readX s rs2).toInt ∧
      (0 ≤ (readX s rs1).toInt → 0 ≤ r.toInt) ∧ ((readX s rs1).toInt ≤ 0 → r.toInt ≤ 0)) ∧
    (readX s rs2 ≠ 0#32 → (readX s rs1).toNat = (readX s rs2).toNat * qu.toNat + ru.toNat ∧
      ru.toNat < (readX s rs2).toNat) ∧
    readX s rs1 = readX s rs2 * q + r ∧ readX s rs1 = readX s rs2 * qu + ru

/-- Every RV64I and RV64M instruction traps IllegalInstruction with its word and changes nothing (47_rv64i_listed.md
R360, 46_m_extension.md R341 to R345, 30_encoding.md R120). Rests on the spec's own decisions D1, D6
(92_eei_decisions.md). -/
def Obligations.Rv64WordsTrap : Prop :=
  ∀ s : State,
    (∀ (rd : Reg) (rs1 : Reg) (imm : BitVec 12), Traps s (exec (.lwu rd rs1 imm) s) .illegalInstruction (some (encode (.lwu rd rs1 imm)))) ∧
    (∀ (rd : Reg) (rs1 : Reg) (imm : BitVec 12), Traps s (exec (.ld rd rs1 imm) s) .illegalInstruction (some (encode (.ld rd rs1 imm)))) ∧
    (∀ (rs1 : Reg) (rs2 : Reg) (imm : BitVec 12), Traps s (exec (.sd rs1 rs2 imm) s) .illegalInstruction (some (encode (.sd rs1 rs2 imm)))) ∧
    (∀ (rd : Reg) (rs1 : Reg) (shamt : BitVec 6), shamt.getLsbD 5 = true → Traps s (exec (.slliRv64 rd rs1 shamt) s) .illegalInstruction (some (encode (.slliRv64 rd rs1 shamt)))) ∧
    (∀ (rd : Reg) (rs1 : Reg) (shamt : BitVec 6), shamt.getLsbD 5 = true → Traps s (exec (.srliRv64 rd rs1 shamt) s) .illegalInstruction (some (encode (.srliRv64 rd rs1 shamt)))) ∧
    (∀ (rd : Reg) (rs1 : Reg) (shamt : BitVec 6), shamt.getLsbD 5 = true → Traps s (exec (.sraiRv64 rd rs1 shamt) s) .illegalInstruction (some (encode (.sraiRv64 rd rs1 shamt)))) ∧
    (∀ (rd : Reg) (rs1 : Reg) (imm : BitVec 12), Traps s (exec (.addiw rd rs1 imm) s) .illegalInstruction (some (encode (.addiw rd rs1 imm)))) ∧
    (∀ (rd : Reg) (rs1 : Reg) (shamt : BitVec 5), Traps s (exec (.slliw rd rs1 shamt) s) .illegalInstruction (some (encode (.slliw rd rs1 shamt)))) ∧
    (∀ (rd : Reg) (rs1 : Reg) (shamt : BitVec 5), Traps s (exec (.srliw rd rs1 shamt) s) .illegalInstruction (some (encode (.srliw rd rs1 shamt)))) ∧
    (∀ (rd : Reg) (rs1 : Reg) (shamt : BitVec 5), Traps s (exec (.sraiw rd rs1 shamt) s) .illegalInstruction (some (encode (.sraiw rd rs1 shamt)))) ∧
    (∀ (rd : Reg) (rs1 : Reg) (rs2 : Reg), Traps s (exec (.addw rd rs1 rs2) s) .illegalInstruction (some (encode (.addw rd rs1 rs2)))) ∧
    (∀ (rd : Reg) (rs1 : Reg) (rs2 : Reg), Traps s (exec (.subw rd rs1 rs2) s) .illegalInstruction (some (encode (.subw rd rs1 rs2)))) ∧
    (∀ (rd : Reg) (rs1 : Reg) (rs2 : Reg), Traps s (exec (.sllw rd rs1 rs2) s) .illegalInstruction (some (encode (.sllw rd rs1 rs2)))) ∧
    (∀ (rd : Reg) (rs1 : Reg) (rs2 : Reg), Traps s (exec (.srlw rd rs1 rs2) s) .illegalInstruction (some (encode (.srlw rd rs1 rs2)))) ∧
    (∀ (rd : Reg) (rs1 : Reg) (rs2 : Reg), Traps s (exec (.sraw rd rs1 rs2) s) .illegalInstruction (some (encode (.sraw rd rs1 rs2)))) ∧
    (∀ (rd : Reg) (rs1 : Reg) (rs2 : Reg), Traps s (exec (.mulw rd rs1 rs2) s) .illegalInstruction (some (encode (.mulw rd rs1 rs2)))) ∧
    (∀ (rd : Reg) (rs1 : Reg) (rs2 : Reg), Traps s (exec (.divw rd rs1 rs2) s) .illegalInstruction (some (encode (.divw rd rs1 rs2)))) ∧
    (∀ (rd : Reg) (rs1 : Reg) (rs2 : Reg), Traps s (exec (.divuw rd rs1 rs2) s) .illegalInstruction (some (encode (.divuw rd rs1 rs2)))) ∧
    (∀ (rd : Reg) (rs1 : Reg) (rs2 : Reg), Traps s (exec (.remw rd rs1 rs2) s) .illegalInstruction (some (encode (.remw rd rs1 rs2)))) ∧
    (∀ (rd : Reg) (rs1 : Reg) (rs2 : Reg), Traps s (exec (.remuw rd rs1 rs2) s) .illegalInstruction (some (encode (.remuw rd rs1 rs2))))

/-- Every A-extension instruction traps IllegalInstruction with its word and changes nothing (48_a_listed.md R380,
30_encoding.md R120). Rests on the spec's own decisions D1, D6 (92_eei_decisions.md). -/
def Obligations.AtomicWordsTrap : Prop :=
  ∀ s : State,
    (∀ (rd : Reg) (rs1 : Reg) (aq : BitVec 1) (rl : BitVec 1), Traps s (exec (.lrW rd rs1 aq rl) s) .illegalInstruction (some (encode (.lrW rd rs1 aq rl)))) ∧
    (∀ (rd : Reg) (rs1 : Reg) (rs2 : Reg) (aq : BitVec 1) (rl : BitVec 1), Traps s (exec (.scW rd rs1 rs2 aq rl) s) .illegalInstruction (some (encode (.scW rd rs1 rs2 aq rl)))) ∧
    (∀ (rd : Reg) (rs1 : Reg) (rs2 : Reg) (aq : BitVec 1) (rl : BitVec 1), Traps s (exec (.amoswapW rd rs1 rs2 aq rl) s) .illegalInstruction (some (encode (.amoswapW rd rs1 rs2 aq rl)))) ∧
    (∀ (rd : Reg) (rs1 : Reg) (rs2 : Reg) (aq : BitVec 1) (rl : BitVec 1), Traps s (exec (.amoaddW rd rs1 rs2 aq rl) s) .illegalInstruction (some (encode (.amoaddW rd rs1 rs2 aq rl)))) ∧
    (∀ (rd : Reg) (rs1 : Reg) (rs2 : Reg) (aq : BitVec 1) (rl : BitVec 1), Traps s (exec (.amoxorW rd rs1 rs2 aq rl) s) .illegalInstruction (some (encode (.amoxorW rd rs1 rs2 aq rl)))) ∧
    (∀ (rd : Reg) (rs1 : Reg) (rs2 : Reg) (aq : BitVec 1) (rl : BitVec 1), Traps s (exec (.amoandW rd rs1 rs2 aq rl) s) .illegalInstruction (some (encode (.amoandW rd rs1 rs2 aq rl)))) ∧
    (∀ (rd : Reg) (rs1 : Reg) (rs2 : Reg) (aq : BitVec 1) (rl : BitVec 1), Traps s (exec (.amoorW rd rs1 rs2 aq rl) s) .illegalInstruction (some (encode (.amoorW rd rs1 rs2 aq rl)))) ∧
    (∀ (rd : Reg) (rs1 : Reg) (rs2 : Reg) (aq : BitVec 1) (rl : BitVec 1), Traps s (exec (.amominW rd rs1 rs2 aq rl) s) .illegalInstruction (some (encode (.amominW rd rs1 rs2 aq rl)))) ∧
    (∀ (rd : Reg) (rs1 : Reg) (rs2 : Reg) (aq : BitVec 1) (rl : BitVec 1), Traps s (exec (.amomaxW rd rs1 rs2 aq rl) s) .illegalInstruction (some (encode (.amomaxW rd rs1 rs2 aq rl)))) ∧
    (∀ (rd : Reg) (rs1 : Reg) (rs2 : Reg) (aq : BitVec 1) (rl : BitVec 1), Traps s (exec (.amominuW rd rs1 rs2 aq rl) s) .illegalInstruction (some (encode (.amominuW rd rs1 rs2 aq rl)))) ∧
    (∀ (rd : Reg) (rs1 : Reg) (rs2 : Reg) (aq : BitVec 1) (rl : BitVec 1), Traps s (exec (.amomaxuW rd rs1 rs2 aq rl) s) .illegalInstruction (some (encode (.amomaxuW rd rs1 rs2 aq rl)))) ∧
    (∀ (rd : Reg) (rs1 : Reg) (aq : BitVec 1) (rl : BitVec 1), Traps s (exec (.lrD rd rs1 aq rl) s) .illegalInstruction (some (encode (.lrD rd rs1 aq rl)))) ∧
    (∀ (rd : Reg) (rs1 : Reg) (rs2 : Reg) (aq : BitVec 1) (rl : BitVec 1), Traps s (exec (.scD rd rs1 rs2 aq rl) s) .illegalInstruction (some (encode (.scD rd rs1 rs2 aq rl)))) ∧
    (∀ (rd : Reg) (rs1 : Reg) (rs2 : Reg) (aq : BitVec 1) (rl : BitVec 1), Traps s (exec (.amoswapD rd rs1 rs2 aq rl) s) .illegalInstruction (some (encode (.amoswapD rd rs1 rs2 aq rl)))) ∧
    (∀ (rd : Reg) (rs1 : Reg) (rs2 : Reg) (aq : BitVec 1) (rl : BitVec 1), Traps s (exec (.amoaddD rd rs1 rs2 aq rl) s) .illegalInstruction (some (encode (.amoaddD rd rs1 rs2 aq rl)))) ∧
    (∀ (rd : Reg) (rs1 : Reg) (rs2 : Reg) (aq : BitVec 1) (rl : BitVec 1), Traps s (exec (.amoxorD rd rs1 rs2 aq rl) s) .illegalInstruction (some (encode (.amoxorD rd rs1 rs2 aq rl)))) ∧
    (∀ (rd : Reg) (rs1 : Reg) (rs2 : Reg) (aq : BitVec 1) (rl : BitVec 1), Traps s (exec (.amoandD rd rs1 rs2 aq rl) s) .illegalInstruction (some (encode (.amoandD rd rs1 rs2 aq rl)))) ∧
    (∀ (rd : Reg) (rs1 : Reg) (rs2 : Reg) (aq : BitVec 1) (rl : BitVec 1), Traps s (exec (.amoorD rd rs1 rs2 aq rl) s) .illegalInstruction (some (encode (.amoorD rd rs1 rs2 aq rl)))) ∧
    (∀ (rd : Reg) (rs1 : Reg) (rs2 : Reg) (aq : BitVec 1) (rl : BitVec 1), Traps s (exec (.amominD rd rs1 rs2 aq rl) s) .illegalInstruction (some (encode (.amominD rd rs1 rs2 aq rl)))) ∧
    (∀ (rd : Reg) (rs1 : Reg) (rs2 : Reg) (aq : BitVec 1) (rl : BitVec 1), Traps s (exec (.amomaxD rd rs1 rs2 aq rl) s) .illegalInstruction (some (encode (.amomaxD rd rs1 rs2 aq rl)))) ∧
    (∀ (rd : Reg) (rs1 : Reg) (rs2 : Reg) (aq : BitVec 1) (rl : BitVec 1), Traps s (exec (.amominuD rd rs1 rs2 aq rl) s) .illegalInstruction (some (encode (.amominuD rd rs1 rs2 aq rl)))) ∧
    (∀ (rd : Reg) (rs1 : Reg) (rs2 : Reg) (aq : BitVec 1) (rl : BitVec 1), Traps s (exec (.amomaxuD rd rs1 rs2 aq rl) s) .illegalInstruction (some (encode (.amomaxuD rd rs1 rs2 aq rl))))

/-- Every F- and D-extension instruction traps IllegalInstruction with its word and changes nothing (49_fd_listed.md
R410, 30_encoding.md R120). Rests on the spec's own decisions D1, D6 (92_eei_decisions.md). Inference the spec marks
as its own: R410. -/
def Obligations.FloatingPointWordsTrap : Prop :=
  ∀ s : State,
    (∀ (rd : Reg) (rs1 : Reg) (imm : BitVec 12), Traps s (exec (.flw rd rs1 imm) s) .illegalInstruction (some (encode (.flw rd rs1 imm)))) ∧
    (∀ (rs1 : Reg) (rs2 : Reg) (imm : BitVec 12), Traps s (exec (.fsw rs1 rs2 imm) s) .illegalInstruction (some (encode (.fsw rs1 rs2 imm)))) ∧
    (∀ (rd : Reg) (rs1 : Reg) (rs2 : Reg) (rs3 : Reg) (rm : BitVec 3), Traps s (exec (.fmaddS rd rs1 rs2 rs3 rm) s) .illegalInstruction (some (encode (.fmaddS rd rs1 rs2 rs3 rm)))) ∧
    (∀ (rd : Reg) (rs1 : Reg) (rs2 : Reg) (rs3 : Reg) (rm : BitVec 3), Traps s (exec (.fmsubS rd rs1 rs2 rs3 rm) s) .illegalInstruction (some (encode (.fmsubS rd rs1 rs2 rs3 rm)))) ∧
    (∀ (rd : Reg) (rs1 : Reg) (rs2 : Reg) (rs3 : Reg) (rm : BitVec 3), Traps s (exec (.fnmsubS rd rs1 rs2 rs3 rm) s) .illegalInstruction (some (encode (.fnmsubS rd rs1 rs2 rs3 rm)))) ∧
    (∀ (rd : Reg) (rs1 : Reg) (rs2 : Reg) (rs3 : Reg) (rm : BitVec 3), Traps s (exec (.fnmaddS rd rs1 rs2 rs3 rm) s) .illegalInstruction (some (encode (.fnmaddS rd rs1 rs2 rs3 rm)))) ∧
    (∀ (rd : Reg) (rs1 : Reg) (rs2 : Reg) (rm : BitVec 3), Traps s (exec (.faddS rd rs1 rs2 rm) s) .illegalInstruction (some (encode (.faddS rd rs1 rs2 rm)))) ∧
    (∀ (rd : Reg) (rs1 : Reg) (rs2 : Reg) (rm : BitVec 3), Traps s (exec (.fsubS rd rs1 rs2 rm) s) .illegalInstruction (some (encode (.fsubS rd rs1 rs2 rm)))) ∧
    (∀ (rd : Reg) (rs1 : Reg) (rs2 : Reg) (rm : BitVec 3), Traps s (exec (.fmulS rd rs1 rs2 rm) s) .illegalInstruction (some (encode (.fmulS rd rs1 rs2 rm)))) ∧
    (∀ (rd : Reg) (rs1 : Reg) (rs2 : Reg) (rm : BitVec 3), Traps s (exec (.fdivS rd rs1 rs2 rm) s) .illegalInstruction (some (encode (.fdivS rd rs1 rs2 rm)))) ∧
    (∀ (rd : Reg) (rs1 : Reg) (rm : BitVec 3), Traps s (exec (.fsqrtS rd rs1 rm) s) .illegalInstruction (some (encode (.fsqrtS rd rs1 rm)))) ∧
    (∀ (rd : Reg) (rs1 : Reg) (rs2 : Reg), Traps s (exec (.fsgnjS rd rs1 rs2) s) .illegalInstruction (some (encode (.fsgnjS rd rs1 rs2)))) ∧
    (∀ (rd : Reg) (rs1 : Reg) (rs2 : Reg), Traps s (exec (.fsgnjnS rd rs1 rs2) s) .illegalInstruction (some (encode (.fsgnjnS rd rs1 rs2)))) ∧
    (∀ (rd : Reg) (rs1 : Reg) (rs2 : Reg), Traps s (exec (.fsgnjxS rd rs1 rs2) s) .illegalInstruction (some (encode (.fsgnjxS rd rs1 rs2)))) ∧
    (∀ (rd : Reg) (rs1 : Reg) (rs2 : Reg), Traps s (exec (.fminS rd rs1 rs2) s) .illegalInstruction (some (encode (.fminS rd rs1 rs2)))) ∧
    (∀ (rd : Reg) (rs1 : Reg) (rs2 : Reg), Traps s (exec (.fmaxS rd rs1 rs2) s) .illegalInstruction (some (encode (.fmaxS rd rs1 rs2)))) ∧
    (∀ (rd : Reg) (rs1 : Reg) (rm : BitVec 3), Traps s (exec (.fcvtWS rd rs1 rm) s) .illegalInstruction (some (encode (.fcvtWS rd rs1 rm)))) ∧
    (∀ (rd : Reg) (rs1 : Reg) (rm : BitVec 3), Traps s (exec (.fcvtWuS rd rs1 rm) s) .illegalInstruction (some (encode (.fcvtWuS rd rs1 rm)))) ∧
    (∀ (rd : Reg) (rs1 : Reg), Traps s (exec (.fmvXW rd rs1) s) .illegalInstruction (some (encode (.fmvXW rd rs1)))) ∧
    (∀ (rd : Reg) (rs1 : Reg) (rs2 : Reg), Traps s (exec (.feqS rd rs1 rs2) s) .illegalInstruction (some (encode (.feqS rd rs1 rs2)))) ∧
    (∀ (rd : Reg) (rs1 : Reg) (rs2 : Reg), Traps s (exec (.fltS rd rs1 rs2) s) .illegalInstruction (some (encode (.fltS rd rs1 rs2)))) ∧
    (∀ (rd : Reg) (rs1 : Reg) (rs2 : Reg), Traps s (exec (.fleS rd rs1 rs2) s) .illegalInstruction (some (encode (.fleS rd rs1 rs2)))) ∧
    (∀ (rd : Reg) (rs1 : Reg), Traps s (exec (.fclassS rd rs1) s) .illegalInstruction (some (encode (.fclassS rd rs1)))) ∧
    (∀ (rd : Reg) (rs1 : Reg) (rm : BitVec 3), Traps s (exec (.fcvtSW rd rs1 rm) s) .illegalInstruction (some (encode (.fcvtSW rd rs1 rm)))) ∧
    (∀ (rd : Reg) (rs1 : Reg) (rm : BitVec 3), Traps s (exec (.fcvtSWu rd rs1 rm) s) .illegalInstruction (some (encode (.fcvtSWu rd rs1 rm)))) ∧
    (∀ (rd : Reg) (rs1 : Reg), Traps s (exec (.fmvWX rd rs1) s) .illegalInstruction (some (encode (.fmvWX rd rs1)))) ∧
    (∀ (rd : Reg) (rs1 : Reg) (rm : BitVec 3), Traps s (exec (.fcvtLS rd rs1 rm) s) .illegalInstruction (some (encode (.fcvtLS rd rs1 rm)))) ∧
    (∀ (rd : Reg) (rs1 : Reg) (rm : BitVec 3), Traps s (exec (.fcvtLuS rd rs1 rm) s) .illegalInstruction (some (encode (.fcvtLuS rd rs1 rm)))) ∧
    (∀ (rd : Reg) (rs1 : Reg) (rm : BitVec 3), Traps s (exec (.fcvtSL rd rs1 rm) s) .illegalInstruction (some (encode (.fcvtSL rd rs1 rm)))) ∧
    (∀ (rd : Reg) (rs1 : Reg) (rm : BitVec 3), Traps s (exec (.fcvtSLu rd rs1 rm) s) .illegalInstruction (some (encode (.fcvtSLu rd rs1 rm)))) ∧
    (∀ (rd : Reg) (rs1 : Reg) (imm : BitVec 12), Traps s (exec (.fld rd rs1 imm) s) .illegalInstruction (some (encode (.fld rd rs1 imm)))) ∧
    (∀ (rs1 : Reg) (rs2 : Reg) (imm : BitVec 12), Traps s (exec (.fsd rs1 rs2 imm) s) .illegalInstruction (some (encode (.fsd rs1 rs2 imm)))) ∧
    (∀ (rd : Reg) (rs1 : Reg) (rs2 : Reg) (rs3 : Reg) (rm : BitVec 3), Traps s (exec (.fmaddD rd rs1 rs2 rs3 rm) s) .illegalInstruction (some (encode (.fmaddD rd rs1 rs2 rs3 rm)))) ∧
    (∀ (rd : Reg) (rs1 : Reg) (rs2 : Reg) (rs3 : Reg) (rm : BitVec 3), Traps s (exec (.fmsubD rd rs1 rs2 rs3 rm) s) .illegalInstruction (some (encode (.fmsubD rd rs1 rs2 rs3 rm)))) ∧
    (∀ (rd : Reg) (rs1 : Reg) (rs2 : Reg) (rs3 : Reg) (rm : BitVec 3), Traps s (exec (.fnmsubD rd rs1 rs2 rs3 rm) s) .illegalInstruction (some (encode (.fnmsubD rd rs1 rs2 rs3 rm)))) ∧
    (∀ (rd : Reg) (rs1 : Reg) (rs2 : Reg) (rs3 : Reg) (rm : BitVec 3), Traps s (exec (.fnmaddD rd rs1 rs2 rs3 rm) s) .illegalInstruction (some (encode (.fnmaddD rd rs1 rs2 rs3 rm)))) ∧
    (∀ (rd : Reg) (rs1 : Reg) (rs2 : Reg) (rm : BitVec 3), Traps s (exec (.faddD rd rs1 rs2 rm) s) .illegalInstruction (some (encode (.faddD rd rs1 rs2 rm)))) ∧
    (∀ (rd : Reg) (rs1 : Reg) (rs2 : Reg) (rm : BitVec 3), Traps s (exec (.fsubD rd rs1 rs2 rm) s) .illegalInstruction (some (encode (.fsubD rd rs1 rs2 rm)))) ∧
    (∀ (rd : Reg) (rs1 : Reg) (rs2 : Reg) (rm : BitVec 3), Traps s (exec (.fmulD rd rs1 rs2 rm) s) .illegalInstruction (some (encode (.fmulD rd rs1 rs2 rm)))) ∧
    (∀ (rd : Reg) (rs1 : Reg) (rs2 : Reg) (rm : BitVec 3), Traps s (exec (.fdivD rd rs1 rs2 rm) s) .illegalInstruction (some (encode (.fdivD rd rs1 rs2 rm)))) ∧
    (∀ (rd : Reg) (rs1 : Reg) (rm : BitVec 3), Traps s (exec (.fsqrtD rd rs1 rm) s) .illegalInstruction (some (encode (.fsqrtD rd rs1 rm)))) ∧
    (∀ (rd : Reg) (rs1 : Reg) (rs2 : Reg), Traps s (exec (.fsgnjD rd rs1 rs2) s) .illegalInstruction (some (encode (.fsgnjD rd rs1 rs2)))) ∧
    (∀ (rd : Reg) (rs1 : Reg) (rs2 : Reg), Traps s (exec (.fsgnjnD rd rs1 rs2) s) .illegalInstruction (some (encode (.fsgnjnD rd rs1 rs2)))) ∧
    (∀ (rd : Reg) (rs1 : Reg) (rs2 : Reg), Traps s (exec (.fsgnjxD rd rs1 rs2) s) .illegalInstruction (some (encode (.fsgnjxD rd rs1 rs2)))) ∧
    (∀ (rd : Reg) (rs1 : Reg) (rs2 : Reg), Traps s (exec (.fminD rd rs1 rs2) s) .illegalInstruction (some (encode (.fminD rd rs1 rs2)))) ∧
    (∀ (rd : Reg) (rs1 : Reg) (rs2 : Reg), Traps s (exec (.fmaxD rd rs1 rs2) s) .illegalInstruction (some (encode (.fmaxD rd rs1 rs2)))) ∧
    (∀ (rd : Reg) (rs1 : Reg) (rm : BitVec 3), Traps s (exec (.fcvtSD rd rs1 rm) s) .illegalInstruction (some (encode (.fcvtSD rd rs1 rm)))) ∧
    (∀ (rd : Reg) (rs1 : Reg) (rm : BitVec 3), Traps s (exec (.fcvtDS rd rs1 rm) s) .illegalInstruction (some (encode (.fcvtDS rd rs1 rm)))) ∧
    (∀ (rd : Reg) (rs1 : Reg) (rs2 : Reg), Traps s (exec (.feqD rd rs1 rs2) s) .illegalInstruction (some (encode (.feqD rd rs1 rs2)))) ∧
    (∀ (rd : Reg) (rs1 : Reg) (rs2 : Reg), Traps s (exec (.fltD rd rs1 rs2) s) .illegalInstruction (some (encode (.fltD rd rs1 rs2)))) ∧
    (∀ (rd : Reg) (rs1 : Reg) (rs2 : Reg), Traps s (exec (.fleD rd rs1 rs2) s) .illegalInstruction (some (encode (.fleD rd rs1 rs2)))) ∧
    (∀ (rd : Reg) (rs1 : Reg), Traps s (exec (.fclassD rd rs1) s) .illegalInstruction (some (encode (.fclassD rd rs1)))) ∧
    (∀ (rd : Reg) (rs1 : Reg) (rm : BitVec 3), Traps s (exec (.fcvtWD rd rs1 rm) s) .illegalInstruction (some (encode (.fcvtWD rd rs1 rm)))) ∧
    (∀ (rd : Reg) (rs1 : Reg) (rm : BitVec 3), Traps s (exec (.fcvtWuD rd rs1 rm) s) .illegalInstruction (some (encode (.fcvtWuD rd rs1 rm)))) ∧
    (∀ (rd : Reg) (rs1 : Reg) (rm : BitVec 3), Traps s (exec (.fcvtDW rd rs1 rm) s) .illegalInstruction (some (encode (.fcvtDW rd rs1 rm)))) ∧
    (∀ (rd : Reg) (rs1 : Reg) (rm : BitVec 3), Traps s (exec (.fcvtDWu rd rs1 rm) s) .illegalInstruction (some (encode (.fcvtDWu rd rs1 rm)))) ∧
    (∀ (rd : Reg) (rs1 : Reg) (rm : BitVec 3), Traps s (exec (.fcvtLD rd rs1 rm) s) .illegalInstruction (some (encode (.fcvtLD rd rs1 rm)))) ∧
    (∀ (rd : Reg) (rs1 : Reg) (rm : BitVec 3), Traps s (exec (.fcvtLuD rd rs1 rm) s) .illegalInstruction (some (encode (.fcvtLuD rd rs1 rm)))) ∧
    (∀ (rd : Reg) (rs1 : Reg), Traps s (exec (.fmvXD rd rs1) s) .illegalInstruction (some (encode (.fmvXD rd rs1)))) ∧
    (∀ (rd : Reg) (rs1 : Reg) (rm : BitVec 3), Traps s (exec (.fcvtDL rd rs1 rm) s) .illegalInstruction (some (encode (.fcvtDL rd rs1 rm)))) ∧
    (∀ (rd : Reg) (rs1 : Reg) (rm : BitVec 3), Traps s (exec (.fcvtDLu rd rs1 rm) s) .illegalInstruction (some (encode (.fcvtDLu rd rs1 rm)))) ∧
    (∀ (rd : Reg) (rs1 : Reg), Traps s (exec (.fmvDX rd rs1) s) .illegalInstruction (some (encode (.fmvDX rd rs1))))

/-- The upper and lower parts of a 32-bit value add up to it, with the +0x800 correction (31_assembler.md R157).
Inference the spec marks as its own: R157. -/
def Obligations.HighAndLowPartsRebuildTheDisplacement : Prop :=
  ∀ d : Word, (hi20 d ++ 0#12) + (lo12 d).signExtend 32 = d ∧
    hi20 d = d.extractLsb' 12 20 + (if d.getLsbD 11 then 1#20 else 0#20)

/-- The expansions of la and li leave pc + d and the immediate in rd (31_assembler.md R153, 31_assembler.md R157,
31_assembler.md R158). Inference the spec marks as its own: R157, R158. -/
def Obligations.LoadAddressAndLoadImmediateBuildTheirValue : Prop :=
  ∀ (s : State) (rd : Reg) (v : Word), s.trap = none → rd ≠ 0#5 →
    (∃ t, runAll (expandPseudo (.la rd v)) s = .next t ∧ readX t rd = s.pc + v ∧
      (∀ q, q ≠ rd → readX t q = readX s q) ∧ SameMemory s t) ∧
    (∃ t, runAll (expandPseudo (.li rd v)) s = .next t ∧ readX t rd = v ∧
      (∀ q, q ≠ rd → readX t q = readX s q) ∧ SameMemory s t)

/-- nop, mv, not, neg, seqz, snez, sltz and sgtz do what Table 20.2 says of them (31_assembler.md R153,
31_assembler.md R155, 40_integer_computational.md R223, 30_encoding.md R124). Inference the spec marks as its own:
R223. -/
def Obligations.OneWordPseudoInstructionsMeanTheirTable : Prop :=
  ∀ (s : State) (rd rs : Reg),
    (∃ i, expandPseudo .nop = [i] ∧ decode 0x00000013#32 = .ok i ∧ OnlyGoesTo s (exec i s) (s.pc + 4#32)) ∧
    (∃ i, expandPseudo (.mv rd rs) = [i] ∧ Writes s (exec i s) rd (readX s rs)) ∧
    (∃ i, expandPseudo (.not rd rs) = [i] ∧ Writes s (exec i s) rd (~~~readX s rs)) ∧
    (∃ i, expandPseudo (.neg rd rs) = [i] ∧ Writes s (exec i s) rd (-readX s rs)) ∧
    (∃ i, expandPseudo (.seqz rd rs) = [i] ∧ Writes s (exec i s) rd (if readX s rs = 0#32 then 1#32 else 0#32)) ∧
    (∃ i, expandPseudo (.snez rd rs) = [i] ∧ Writes s (exec i s) rd (if readX s rs ≠ 0#32 then 1#32 else 0#32)) ∧
    (∃ i, expandPseudo (.sltz rd rs) = [i] ∧ Writes s (exec i s) rd (if (readX s rs).toInt < 0 then 1#32 else 0#32)) ∧
    (∃ i, expandPseudo (.sgtz rd rs) = [i] ∧ Writes s (exec i s) rd (if (readX s rs).toInt > 0 then 1#32 else 0#32))

/-- The expansion of call jumps to its own address plus d and links the next address (31_assembler.md R153,
31_assembler.md R157). Inference the spec marks as its own: R157. -/
def Obligations.CallReachesAnyAlignedTarget : Prop :=
  ∀ (s : State) (d : Word), s.trap = none → FourAligned (s.pc + d) →
    ∃ t, runAll (expandPseudo (.call d)) s = .next t ∧ t.trap = none ∧ t.pc = s.pc + d ∧ readX t 1#5 = s.pc + 8#32 ∧
      (∀ q, q ≠ 1#5 → q ≠ 6#5 → readX t q = readX s q) ∧ SameMemory s t
end

