-- ==== Sys2Proof/Laws/Encoding.lean ====
section
/-! SUPPORT. The fields of an encoded word: for each format, every field accessor gives back the field it was built
from. With these, `decode (encode i)` is computed by rewriting and no proof opens a word again. -/

namespace Sys2Proof.Laws

/-- The bits of a word of the R format. -/
theorem getLsbD_encR (f7 : BitVec 7) (rs2 : BitVec 5) (rs1 : BitVec 5) (f3 : BitVec 3) (rd : Reg) (op : BitVec 7) (i : Nat) :
    (encR f7 rs2 rs1 f3 rd op).getLsbD i =
      if i < 7 then op.getLsbD i else
      if i < 12 then rd.getLsbD (i - 7) else
      if i < 15 then f3.getLsbD (i - 12) else
      if i < 20 then rs1.getLsbD (i - 15) else
      if i < 25 then rs2.getLsbD (i - 20) else
      f7.getLsbD (i - 25) := by
  change (f7 ++ rs2 ++ rs1 ++ f3 ++ rd ++ op : BitVec (7+5+5+3+5+7)).getLsbD i = _
  simp only [BitVec.getLsbD_append]
  grind

@[simp] theorem opcodeOf_encR (f7 : BitVec 7) (rs2 : BitVec 5) (rs1 : BitVec 5) (f3 : BitVec 3) (rd : Reg) (op : BitVec 7) :
    opcodeOf (encR f7 rs2 rs1 f3 rd op) = op := by
  apply BitVec.eq_of_getLsbD_eq
  intro i hi
  simp only [opcodeOf, getLsbD_encR, BitVec.getLsbD_extractLsb']
  grind

@[simp] theorem rdOf_encR (f7 : BitVec 7) (rs2 : BitVec 5) (rs1 : BitVec 5) (f3 : BitVec 3) (rd : Reg) (op : BitVec 7) :
    rdOf (encR f7 rs2 rs1 f3 rd op) = rd := by
  apply BitVec.eq_of_getLsbD_eq
  intro i hi
  simp only [rdOf, getLsbD_encR, BitVec.getLsbD_extractLsb']
  grind

@[simp] theorem funct3Of_encR (f7 : BitVec 7) (rs2 : BitVec 5) (rs1 : BitVec 5) (f3 : BitVec 3) (rd : Reg) (op : BitVec 7) :
    funct3Of (encR f7 rs2 rs1 f3 rd op) = f3 := by
  apply BitVec.eq_of_getLsbD_eq
  intro i hi
  simp only [funct3Of, getLsbD_encR, BitVec.getLsbD_extractLsb']
  grind

@[simp] theorem rs1Of_encR (f7 : BitVec 7) (rs2 : BitVec 5) (rs1 : BitVec 5) (f3 : BitVec 3) (rd : Reg) (op : BitVec 7) :
    rs1Of (encR f7 rs2 rs1 f3 rd op) = rs1 := by
  apply BitVec.eq_of_getLsbD_eq
  intro i hi
  simp only [rs1Of, getLsbD_encR, BitVec.getLsbD_extractLsb']
  grind

@[simp] theorem rs2Of_encR (f7 : BitVec 7) (rs2 : BitVec 5) (rs1 : BitVec 5) (f3 : BitVec 3) (rd : Reg) (op : BitVec 7) :
    rs2Of (encR f7 rs2 rs1 f3 rd op) = rs2 := by
  apply BitVec.eq_of_getLsbD_eq
  intro i hi
  simp only [rs2Of, getLsbD_encR, BitVec.getLsbD_extractLsb']
  grind

@[simp] theorem funct7Of_encR (f7 : BitVec 7) (rs2 : BitVec 5) (rs1 : BitVec 5) (f3 : BitVec 3) (rd : Reg) (op : BitVec 7) :
    funct7Of (encR f7 rs2 rs1 f3 rd op) = f7 := by
  apply BitVec.eq_of_getLsbD_eq
  intro i hi
  simp only [funct7Of, getLsbD_encR, BitVec.getLsbD_extractLsb']
  grind

/-- The bits of a word of the I format. -/
theorem getLsbD_encI (imm : BitVec 12) (rs1 : BitVec 5) (f3 : BitVec 3) (rd : Reg) (op : BitVec 7) (i : Nat) :
    (encI imm rs1 f3 rd op).getLsbD i =
      if i < 7 then op.getLsbD i else
      if i < 12 then rd.getLsbD (i - 7) else
      if i < 15 then f3.getLsbD (i - 12) else
      if i < 20 then rs1.getLsbD (i - 15) else
      imm.getLsbD (i - 20) := by
  change (imm ++ rs1 ++ f3 ++ rd ++ op : BitVec (12+5+3+5+7)).getLsbD i = _
  simp only [BitVec.getLsbD_append]
  grind

@[simp] theorem opcodeOf_encI (imm : BitVec 12) (rs1 : BitVec 5) (f3 : BitVec 3) (rd : Reg) (op : BitVec 7) :
    opcodeOf (encI imm rs1 f3 rd op) = op := by
  apply BitVec.eq_of_getLsbD_eq
  intro i hi
  simp only [opcodeOf, getLsbD_encI, BitVec.getLsbD_extractLsb']
  grind

@[simp] theorem rdOf_encI (imm : BitVec 12) (rs1 : BitVec 5) (f3 : BitVec 3) (rd : Reg) (op : BitVec 7) :
    rdOf (encI imm rs1 f3 rd op) = rd := by
  apply BitVec.eq_of_getLsbD_eq
  intro i hi
  simp only [rdOf, getLsbD_encI, BitVec.getLsbD_extractLsb']
  grind

@[simp] theorem funct3Of_encI (imm : BitVec 12) (rs1 : BitVec 5) (f3 : BitVec 3) (rd : Reg) (op : BitVec 7) :
    funct3Of (encI imm rs1 f3 rd op) = f3 := by
  apply BitVec.eq_of_getLsbD_eq
  intro i hi
  simp only [funct3Of, getLsbD_encI, BitVec.getLsbD_extractLsb']
  grind

@[simp] theorem rs1Of_encI (imm : BitVec 12) (rs1 : BitVec 5) (f3 : BitVec 3) (rd : Reg) (op : BitVec 7) :
    rs1Of (encI imm rs1 f3 rd op) = rs1 := by
  apply BitVec.eq_of_getLsbD_eq
  intro i hi
  simp only [rs1Of, getLsbD_encI, BitVec.getLsbD_extractLsb']
  grind

@[simp] theorem immIOf_encI (imm : BitVec 12) (rs1 : BitVec 5) (f3 : BitVec 3) (rd : Reg) (op : BitVec 7) :
    immIOf (encI imm rs1 f3 rd op) = imm := by
  apply BitVec.eq_of_getLsbD_eq
  intro i hi
  simp only [immIOf, getLsbD_encI, BitVec.getLsbD_extractLsb']
  grind

@[simp] theorem csrOf_encI (imm : BitVec 12) (rs1 : BitVec 5) (f3 : BitVec 3) (rd : Reg) (op : BitVec 7) :
    csrOf (encI imm rs1 f3 rd op) = imm := by
  apply BitVec.eq_of_getLsbD_eq
  intro i hi
  simp only [csrOf, getLsbD_encI, BitVec.getLsbD_extractLsb']
  grind

/-- The bits of a word of the S format. -/
theorem getLsbD_encS (imm : BitVec 12) (rs2 : Reg) (rs1 : Reg) (f3 : BitVec 3) (op : BitVec 7) (i : Nat) :
    (encS imm rs2 rs1 f3 op).getLsbD i =
      if i < 7 then op.getLsbD i else
      if i < 12 then (imm.extractLsb' 0 5).getLsbD (i - 7) else
      if i < 15 then f3.getLsbD (i - 12) else
      if i < 20 then rs1.getLsbD (i - 15) else
      if i < 25 then rs2.getLsbD (i - 20) else
      (imm.extractLsb' 5 7).getLsbD (i - 25) := by
  change (imm.extractLsb' 5 7 ++ rs2 ++ rs1 ++ f3 ++ imm.extractLsb' 0 5 ++ op : BitVec (7+5+5+3+5+7)).getLsbD i = _
  simp only [BitVec.getLsbD_append]
  grind

@[simp] theorem opcodeOf_encS (imm : BitVec 12) (rs2 : Reg) (rs1 : Reg) (f3 : BitVec 3) (op : BitVec 7) :
    opcodeOf (encS imm rs2 rs1 f3 op) = op := by
  apply BitVec.eq_of_getLsbD_eq
  intro i hi
  simp only [opcodeOf, getLsbD_encS, BitVec.getLsbD_extractLsb']
  grind

@[simp] theorem funct3Of_encS (imm : BitVec 12) (rs2 : Reg) (rs1 : Reg) (f3 : BitVec 3) (op : BitVec 7) :
    funct3Of (encS imm rs2 rs1 f3 op) = f3 := by
  apply BitVec.eq_of_getLsbD_eq
  intro i hi
  simp only [funct3Of, getLsbD_encS, BitVec.getLsbD_extractLsb']
  grind

@[simp] theorem rs1Of_encS (imm : BitVec 12) (rs2 : Reg) (rs1 : Reg) (f3 : BitVec 3) (op : BitVec 7) :
    rs1Of (encS imm rs2 rs1 f3 op) = rs1 := by
  apply BitVec.eq_of_getLsbD_eq
  intro i hi
  simp only [rs1Of, getLsbD_encS, BitVec.getLsbD_extractLsb']
  grind

@[simp] theorem rs2Of_encS (imm : BitVec 12) (rs2 : Reg) (rs1 : Reg) (f3 : BitVec 3) (op : BitVec 7) :
    rs2Of (encS imm rs2 rs1 f3 op) = rs2 := by
  apply BitVec.eq_of_getLsbD_eq
  intro i hi
  simp only [rs2Of, getLsbD_encS, BitVec.getLsbD_extractLsb']
  grind

@[simp] theorem immSOf_encS (imm : BitVec 12) (rs2 : Reg) (rs1 : Reg) (f3 : BitVec 3) (op : BitVec 7) :
    immSOf (encS imm rs2 rs1 f3 op) = imm := by
  apply BitVec.eq_of_getLsbD_eq
  intro i hi
  simp only [immSOf, getLsbD_encS, BitVec.getLsbD_extractLsb', BitVec.getLsbD_append]
  grind

/-- The bits of a word of the B format. -/
theorem getLsbD_encB (off : BitVec 13) (rs2 : Reg) (rs1 : Reg) (f3 : BitVec 3) (op : BitVec 7) (i : Nat) :
    (encB off rs2 rs1 f3 op).getLsbD i =
      if i < 7 then op.getLsbD i else
      if i < 8 then (off.extractLsb' 11 1).getLsbD (i - 7) else
      if i < 12 then (off.extractLsb' 1 4).getLsbD (i - 8) else
      if i < 15 then f3.getLsbD (i - 12) else
      if i < 20 then rs1.getLsbD (i - 15) else
      if i < 25 then rs2.getLsbD (i - 20) else
      if i < 31 then (off.extractLsb' 5 6).getLsbD (i - 25) else
      (off.extractLsb' 12 1).getLsbD (i - 31) := by
  change (off.extractLsb' 12 1 ++ off.extractLsb' 5 6 ++ rs2 ++ rs1 ++ f3 ++ off.extractLsb' 1 4 ++ off.extractLsb' 11 1 ++ op : BitVec (1+6+5+5+3+4+1+7)).getLsbD i = _
  simp only [BitVec.getLsbD_append]
  grind

@[simp] theorem opcodeOf_encB (off : BitVec 13) (rs2 : Reg) (rs1 : Reg) (f3 : BitVec 3) (op : BitVec 7) :
    opcodeOf (encB off rs2 rs1 f3 op) = op := by
  apply BitVec.eq_of_getLsbD_eq
  intro i hi
  simp only [opcodeOf, getLsbD_encB, BitVec.getLsbD_extractLsb']
  grind

@[simp] theorem funct3Of_encB (off : BitVec 13) (rs2 : Reg) (rs1 : Reg) (f3 : BitVec 3) (op : BitVec 7) :
    funct3Of (encB off rs2 rs1 f3 op) = f3 := by
  apply BitVec.eq_of_getLsbD_eq
  intro i hi
  simp only [funct3Of, getLsbD_encB, BitVec.getLsbD_extractLsb']
  grind

@[simp] theorem rs1Of_encB (off : BitVec 13) (rs2 : Reg) (rs1 : Reg) (f3 : BitVec 3) (op : BitVec 7) :
    rs1Of (encB off rs2 rs1 f3 op) = rs1 := by
  apply BitVec.eq_of_getLsbD_eq
  intro i hi
  simp only [rs1Of, getLsbD_encB, BitVec.getLsbD_extractLsb']
  grind

@[simp] theorem rs2Of_encB (off : BitVec 13) (rs2 : Reg) (rs1 : Reg) (f3 : BitVec 3) (op : BitVec 7) :
    rs2Of (encB off rs2 rs1 f3 op) = rs2 := by
  apply BitVec.eq_of_getLsbD_eq
  intro i hi
  simp only [rs2Of, getLsbD_encB, BitVec.getLsbD_extractLsb']
  grind

@[simp] theorem offBOf_encB (off : BitVec 13) (rs2 : Reg) (rs1 : Reg) (f3 : BitVec 3) (op : BitVec 7) (h : offsetEven off = true) :
    offBOf (encB off rs2 rs1 f3 op) = off := by
  have h0 : off.getLsbD 0 = false := by simpa only [offsetEven, beq_iff_eq] using h
  apply BitVec.eq_of_getLsbD_eq
  intro i hi
  simp only [offBOf, getLsbD_encB, BitVec.getLsbD_extractLsb', BitVec.getLsbD_append, BitVec.getLsbD_zero]
  grind

/-- The bits of a word of the U format. -/
theorem getLsbD_encU (imm : BitVec 20) (rd : Reg) (op : BitVec 7) (i : Nat) :
    (encU imm rd op).getLsbD i =
      if i < 7 then op.getLsbD i else
      if i < 12 then rd.getLsbD (i - 7) else
      imm.getLsbD (i - 12) := by
  change (imm ++ rd ++ op : BitVec (20+5+7)).getLsbD i = _
  simp only [BitVec.getLsbD_append]
  grind

@[simp] theorem opcodeOf_encU (imm : BitVec 20) (rd : Reg) (op : BitVec 7) :
    opcodeOf (encU imm rd op) = op := by
  apply BitVec.eq_of_getLsbD_eq
  intro i hi
  simp only [opcodeOf, getLsbD_encU, BitVec.getLsbD_extractLsb']
  grind

@[simp] theorem rdOf_encU (imm : BitVec 20) (rd : Reg) (op : BitVec 7) :
    rdOf (encU imm rd op) = rd := by
  apply BitVec.eq_of_getLsbD_eq
  intro i hi
  simp only [rdOf, getLsbD_encU, BitVec.getLsbD_extractLsb']
  grind

@[simp] theorem immUOf_encU (imm : BitVec 20) (rd : Reg) (op : BitVec 7) :
    immUOf (encU imm rd op) = imm := by
  apply BitVec.eq_of_getLsbD_eq
  intro i hi
  simp only [immUOf, getLsbD_encU, BitVec.getLsbD_extractLsb']
  grind

/-- The bits of a word of the J format. -/
theorem getLsbD_encJ (off : BitVec 21) (rd : Reg) (op : BitVec 7) (i : Nat) :
    (encJ off rd op).getLsbD i =
      if i < 7 then op.getLsbD i else
      if i < 12 then rd.getLsbD (i - 7) else
      if i < 20 then (off.extractLsb' 12 8).getLsbD (i - 12) else
      if i < 21 then (off.extractLsb' 11 1).getLsbD (i - 20) else
      if i < 31 then (off.extractLsb' 1 10).getLsbD (i - 21) else
      (off.extractLsb' 20 1).getLsbD (i - 31) := by
  change (off.extractLsb' 20 1 ++ off.extractLsb' 1 10 ++ off.extractLsb' 11 1 ++ off.extractLsb' 12 8 ++ rd ++ op : BitVec (1+10+1+8+5+7)).getLsbD i = _
  simp only [BitVec.getLsbD_append]
  grind

@[simp] theorem opcodeOf_encJ (off : BitVec 21) (rd : Reg) (op : BitVec 7) :
    opcodeOf (encJ off rd op) = op := by
  apply BitVec.eq_of_getLsbD_eq
  intro i hi
  simp only [opcodeOf, getLsbD_encJ, BitVec.getLsbD_extractLsb']
  grind

@[simp] theorem rdOf_encJ (off : BitVec 21) (rd : Reg) (op : BitVec 7) :
    rdOf (encJ off rd op) = rd := by
  apply BitVec.eq_of_getLsbD_eq
  intro i hi
  simp only [rdOf, getLsbD_encJ, BitVec.getLsbD_extractLsb']
  grind

@[simp] theorem offJOf_encJ (off : BitVec 21) (rd : Reg) (op : BitVec 7) (h : offsetEven off = true) :
    offJOf (encJ off rd op) = off := by
  have h0 : off.getLsbD 0 = false := by simpa only [offsetEven, beq_iff_eq] using h
  apply BitVec.eq_of_getLsbD_eq
  intro i hi
  simp only [offJOf, getLsbD_encJ, BitVec.getLsbD_extractLsb', BitVec.getLsbD_append, BitVec.getLsbD_zero]
  grind

/-- The bits of a word of the Shift6 format. -/
theorem getLsbD_encShift6 (f6 : BitVec 6) (shamt : BitVec 6) (rs1 : Reg) (f3 : BitVec 3) (rd : Reg) (op : BitVec 7) (i : Nat) :
    (encShift6 f6 shamt rs1 f3 rd op).getLsbD i =
      if i < 7 then op.getLsbD i else
      if i < 12 then rd.getLsbD (i - 7) else
      if i < 15 then f3.getLsbD (i - 12) else
      if i < 20 then rs1.getLsbD (i - 15) else
      if i < 26 then shamt.getLsbD (i - 20) else
      f6.getLsbD (i - 26) := by
  change (f6 ++ shamt ++ rs1 ++ f3 ++ rd ++ op : BitVec (6+6+5+3+5+7)).getLsbD i = _
  simp only [BitVec.getLsbD_append]
  grind

@[simp] theorem opcodeOf_encShift6 (f6 : BitVec 6) (shamt : BitVec 6) (rs1 : Reg) (f3 : BitVec 3) (rd : Reg) (op : BitVec 7) :
    opcodeOf (encShift6 f6 shamt rs1 f3 rd op) = op := by
  apply BitVec.eq_of_getLsbD_eq
  intro i hi
  simp only [opcodeOf, getLsbD_encShift6, BitVec.getLsbD_extractLsb']
  grind

@[simp] theorem rdOf_encShift6 (f6 : BitVec 6) (shamt : BitVec 6) (rs1 : Reg) (f3 : BitVec 3) (rd : Reg) (op : BitVec 7) :
    rdOf (encShift6 f6 shamt rs1 f3 rd op) = rd := by
  apply BitVec.eq_of_getLsbD_eq
  intro i hi
  simp only [rdOf, getLsbD_encShift6, BitVec.getLsbD_extractLsb']
  grind

@[simp] theorem funct3Of_encShift6 (f6 : BitVec 6) (shamt : BitVec 6) (rs1 : Reg) (f3 : BitVec 3) (rd : Reg) (op : BitVec 7) :
    funct3Of (encShift6 f6 shamt rs1 f3 rd op) = f3 := by
  apply BitVec.eq_of_getLsbD_eq
  intro i hi
  simp only [funct3Of, getLsbD_encShift6, BitVec.getLsbD_extractLsb']
  grind

@[simp] theorem rs1Of_encShift6 (f6 : BitVec 6) (shamt : BitVec 6) (rs1 : Reg) (f3 : BitVec 3) (rd : Reg) (op : BitVec 7) :
    rs1Of (encShift6 f6 shamt rs1 f3 rd op) = rs1 := by
  apply BitVec.eq_of_getLsbD_eq
  intro i hi
  simp only [rs1Of, getLsbD_encShift6, BitVec.getLsbD_extractLsb']
  grind

@[simp] theorem shamt6Of_encShift6 (f6 : BitVec 6) (shamt : BitVec 6) (rs1 : Reg) (f3 : BitVec 3) (rd : Reg) (op : BitVec 7) :
    shamt6Of (encShift6 f6 shamt rs1 f3 rd op) = shamt := by
  apply BitVec.eq_of_getLsbD_eq
  intro i hi
  simp only [shamt6Of, getLsbD_encShift6, BitVec.getLsbD_extractLsb']
  grind

@[simp] theorem funct6Of_encShift6 (f6 : BitVec 6) (shamt : BitVec 6) (rs1 : Reg) (f3 : BitVec 3) (rd : Reg) (op : BitVec 7) :
    funct6Of (encShift6 f6 shamt rs1 f3 rd op) = f6 := by
  apply BitVec.eq_of_getLsbD_eq
  intro i hi
  simp only [funct6Of, getLsbD_encShift6, BitVec.getLsbD_extractLsb']
  grind

/-- The bits of a word of the Fence format. -/
theorem getLsbD_encFence (pred : BitVec 4) (succ : BitVec 4) (i : Nat) :
    (encFence pred succ).getLsbD i =
      if i < 7 then (0b0001111#7).getLsbD i else
      if i < 12 then (0b00000#5).getLsbD (i - 7) else
      if i < 15 then (0b000#3).getLsbD (i - 12) else
      if i < 20 then (0b00000#5).getLsbD (i - 15) else
      if i < 24 then succ.getLsbD (i - 20) else
      if i < 28 then pred.getLsbD (i - 24) else
      (0b0000#4).getLsbD (i - 28) := by
  change (0b0000#4 ++ pred ++ succ ++ 0b00000#5 ++ 0b000#3 ++ 0b00000#5 ++ 0b0001111#7 : BitVec (4+4+4+5+3+5+7)).getLsbD i = _
  simp only [BitVec.getLsbD_append]
  grind

@[simp] theorem opcodeOf_encFence (pred : BitVec 4) (succ : BitVec 4) :
    opcodeOf (encFence pred succ) = 0b0001111#7 := by
  apply BitVec.eq_of_getLsbD_eq
  intro i hi
  simp only [opcodeOf, getLsbD_encFence, BitVec.getLsbD_extractLsb']
  grind

@[simp] theorem rdOf_encFence (pred : BitVec 4) (succ : BitVec 4) :
    rdOf (encFence pred succ) = 0b00000#5 := by
  apply BitVec.eq_of_getLsbD_eq
  intro i hi
  simp only [rdOf, getLsbD_encFence, BitVec.getLsbD_extractLsb']
  grind

@[simp] theorem funct3Of_encFence (pred : BitVec 4) (succ : BitVec 4) :
    funct3Of (encFence pred succ) = 0b000#3 := by
  apply BitVec.eq_of_getLsbD_eq
  intro i hi
  simp only [funct3Of, getLsbD_encFence, BitVec.getLsbD_extractLsb']
  grind

@[simp] theorem rs1Of_encFence (pred : BitVec 4) (succ : BitVec 4) :
    rs1Of (encFence pred succ) = 0b00000#5 := by
  apply BitVec.eq_of_getLsbD_eq
  intro i hi
  simp only [rs1Of, getLsbD_encFence, BitVec.getLsbD_extractLsb']
  grind

@[simp] theorem fenceTopOf_encFence (pred : BitVec 4) (succ : BitVec 4) :
    fenceTopOf (encFence pred succ) = 0b0000#4 := by
  apply BitVec.eq_of_getLsbD_eq
  intro i hi
  simp only [fenceTopOf, getLsbD_encFence, BitVec.getLsbD_extractLsb']
  grind

@[simp] theorem predOf_encFence (pred : BitVec 4) (succ : BitVec 4) :
    predOf (encFence pred succ) = pred := by
  apply BitVec.eq_of_getLsbD_eq
  intro i hi
  simp only [predOf, getLsbD_encFence, BitVec.getLsbD_extractLsb']
  grind

@[simp] theorem succOf_encFence (pred : BitVec 4) (succ : BitVec 4) :
    succOf (encFence pred succ) = succ := by
  apply BitVec.eq_of_getLsbD_eq
  intro i hi
  simp only [succOf, getLsbD_encFence, BitVec.getLsbD_extractLsb']
  grind

/-- The bits of a word of the Amo format. -/
theorem getLsbD_encAmo (f5 : BitVec 5) (aq : BitVec 1) (rl : BitVec 1) (rs2 : Reg) (rs1 : Reg) (f3 : BitVec 3) (rd : Reg) (op : BitVec 7) (i : Nat) :
    (encAmo f5 aq rl rs2 rs1 f3 rd op).getLsbD i =
      if i < 7 then op.getLsbD i else
      if i < 12 then rd.getLsbD (i - 7) else
      if i < 15 then f3.getLsbD (i - 12) else
      if i < 20 then rs1.getLsbD (i - 15) else
      if i < 25 then rs2.getLsbD (i - 20) else
      if i < 26 then rl.getLsbD (i - 25) else
      if i < 27 then aq.getLsbD (i - 26) else
      f5.getLsbD (i - 27) := by
  change (f5 ++ aq ++ rl ++ rs2 ++ rs1 ++ f3 ++ rd ++ op : BitVec (5+1+1+5+5+3+5+7)).getLsbD i = _
  simp only [BitVec.getLsbD_append]
  grind

@[simp] theorem opcodeOf_encAmo (f5 : BitVec 5) (aq : BitVec 1) (rl : BitVec 1) (rs2 : Reg) (rs1 : Reg) (f3 : BitVec 3) (rd : Reg) (op : BitVec 7) :
    opcodeOf (encAmo f5 aq rl rs2 rs1 f3 rd op) = op := by
  apply BitVec.eq_of_getLsbD_eq
  intro i hi
  simp only [opcodeOf, getLsbD_encAmo, BitVec.getLsbD_extractLsb']
  grind

@[simp] theorem rdOf_encAmo (f5 : BitVec 5) (aq : BitVec 1) (rl : BitVec 1) (rs2 : Reg) (rs1 : Reg) (f3 : BitVec 3) (rd : Reg) (op : BitVec 7) :
    rdOf (encAmo f5 aq rl rs2 rs1 f3 rd op) = rd := by
  apply BitVec.eq_of_getLsbD_eq
  intro i hi
  simp only [rdOf, getLsbD_encAmo, BitVec.getLsbD_extractLsb']
  grind

@[simp] theorem funct3Of_encAmo (f5 : BitVec 5) (aq : BitVec 1) (rl : BitVec 1) (rs2 : Reg) (rs1 : Reg) (f3 : BitVec 3) (rd : Reg) (op : BitVec 7) :
    funct3Of (encAmo f5 aq rl rs2 rs1 f3 rd op) = f3 := by
  apply BitVec.eq_of_getLsbD_eq
  intro i hi
  simp only [funct3Of, getLsbD_encAmo, BitVec.getLsbD_extractLsb']
  grind

@[simp] theorem rs1Of_encAmo (f5 : BitVec 5) (aq : BitVec 1) (rl : BitVec 1) (rs2 : Reg) (rs1 : Reg) (f3 : BitVec 3) (rd : Reg) (op : BitVec 7) :
    rs1Of (encAmo f5 aq rl rs2 rs1 f3 rd op) = rs1 := by
  apply BitVec.eq_of_getLsbD_eq
  intro i hi
  simp only [rs1Of, getLsbD_encAmo, BitVec.getLsbD_extractLsb']
  grind

@[simp] theorem rs2Of_encAmo (f5 : BitVec 5) (aq : BitVec 1) (rl : BitVec 1) (rs2 : Reg) (rs1 : Reg) (f3 : BitVec 3) (rd : Reg) (op : BitVec 7) :
    rs2Of (encAmo f5 aq rl rs2 rs1 f3 rd op) = rs2 := by
  apply BitVec.eq_of_getLsbD_eq
  intro i hi
  simp only [rs2Of, getLsbD_encAmo, BitVec.getLsbD_extractLsb']
  grind

@[simp] theorem aqOf_encAmo (f5 : BitVec 5) (aq : BitVec 1) (rl : BitVec 1) (rs2 : Reg) (rs1 : Reg) (f3 : BitVec 3) (rd : Reg) (op : BitVec 7) :
    aqOf (encAmo f5 aq rl rs2 rs1 f3 rd op) = aq := by
  apply BitVec.eq_of_getLsbD_eq
  intro i hi
  simp only [aqOf, getLsbD_encAmo, BitVec.getLsbD_extractLsb']
  grind

@[simp] theorem rlOf_encAmo (f5 : BitVec 5) (aq : BitVec 1) (rl : BitVec 1) (rs2 : Reg) (rs1 : Reg) (f3 : BitVec 3) (rd : Reg) (op : BitVec 7) :
    rlOf (encAmo f5 aq rl rs2 rs1 f3 rd op) = rl := by
  apply BitVec.eq_of_getLsbD_eq
  intro i hi
  simp only [rlOf, getLsbD_encAmo, BitVec.getLsbD_extractLsb']
  grind

@[simp] theorem funct5Of_encAmo (f5 : BitVec 5) (aq : BitVec 1) (rl : BitVec 1) (rs2 : Reg) (rs1 : Reg) (f3 : BitVec 3) (rd : Reg) (op : BitVec 7) :
    funct5Of (encAmo f5 aq rl rs2 rs1 f3 rd op) = f5 := by
  apply BitVec.eq_of_getLsbD_eq
  intro i hi
  simp only [funct5Of, getLsbD_encAmo, BitVec.getLsbD_extractLsb']
  grind

/-- The bits of a word of the R4 format. -/
theorem getLsbD_encR4 (rs3 : Reg) (f2 : BitVec 2) (rs2 : Reg) (rs1 : Reg) (rm : BitVec 3) (rd : Reg) (op : BitVec 7) (i : Nat) :
    (encR4 rs3 f2 rs2 rs1 rm rd op).getLsbD i =
      if i < 7 then op.getLsbD i else
      if i < 12 then rd.getLsbD (i - 7) else
      if i < 15 then rm.getLsbD (i - 12) else
      if i < 20 then rs1.getLsbD (i - 15) else
      if i < 25 then rs2.getLsbD (i - 20) else
      if i < 27 then f2.getLsbD (i - 25) else
      rs3.getLsbD (i - 27) := by
  change (rs3 ++ f2 ++ rs2 ++ rs1 ++ rm ++ rd ++ op : BitVec (5+2+5+5+3+5+7)).getLsbD i = _
  simp only [BitVec.getLsbD_append]
  grind

@[simp] theorem opcodeOf_encR4 (rs3 : Reg) (f2 : BitVec 2) (rs2 : Reg) (rs1 : Reg) (rm : BitVec 3) (rd : Reg) (op : BitVec 7) :
    opcodeOf (encR4 rs3 f2 rs2 rs1 rm rd op) = op := by
  apply BitVec.eq_of_getLsbD_eq
  intro i hi
  simp only [opcodeOf, getLsbD_encR4, BitVec.getLsbD_extractLsb']
  grind

@[simp] theorem rdOf_encR4 (rs3 : Reg) (f2 : BitVec 2) (rs2 : Reg) (rs1 : Reg) (rm : BitVec 3) (rd : Reg) (op : BitVec 7) :
    rdOf (encR4 rs3 f2 rs2 rs1 rm rd op) = rd := by
  apply BitVec.eq_of_getLsbD_eq
  intro i hi
  simp only [rdOf, getLsbD_encR4, BitVec.getLsbD_extractLsb']
  grind

@[simp] theorem funct3Of_encR4 (rs3 : Reg) (f2 : BitVec 2) (rs2 : Reg) (rs1 : Reg) (rm : BitVec 3) (rd : Reg) (op : BitVec 7) :
    funct3Of (encR4 rs3 f2 rs2 rs1 rm rd op) = rm := by
  apply BitVec.eq_of_getLsbD_eq
  intro i hi
  simp only [funct3Of, getLsbD_encR4, BitVec.getLsbD_extractLsb']
  grind

@[simp] theorem rs1Of_encR4 (rs3 : Reg) (f2 : BitVec 2) (rs2 : Reg) (rs1 : Reg) (rm : BitVec 3) (rd : Reg) (op : BitVec 7) :
    rs1Of (encR4 rs3 f2 rs2 rs1 rm rd op) = rs1 := by
  apply BitVec.eq_of_getLsbD_eq
  intro i hi
  simp only [rs1Of, getLsbD_encR4, BitVec.getLsbD_extractLsb']
  grind

@[simp] theorem rs2Of_encR4 (rs3 : Reg) (f2 : BitVec 2) (rs2 : Reg) (rs1 : Reg) (rm : BitVec 3) (rd : Reg) (op : BitVec 7) :
    rs2Of (encR4 rs3 f2 rs2 rs1 rm rd op) = rs2 := by
  apply BitVec.eq_of_getLsbD_eq
  intro i hi
  simp only [rs2Of, getLsbD_encR4, BitVec.getLsbD_extractLsb']
  grind

@[simp] theorem funct2Of_encR4 (rs3 : Reg) (f2 : BitVec 2) (rs2 : Reg) (rs1 : Reg) (rm : BitVec 3) (rd : Reg) (op : BitVec 7) :
    funct2Of (encR4 rs3 f2 rs2 rs1 rm rd op) = f2 := by
  apply BitVec.eq_of_getLsbD_eq
  intro i hi
  simp only [funct2Of, getLsbD_encR4, BitVec.getLsbD_extractLsb']
  grind

@[simp] theorem rs3Of_encR4 (rs3 : Reg) (f2 : BitVec 2) (rs2 : Reg) (rs1 : Reg) (rm : BitVec 3) (rd : Reg) (op : BitVec 7) :
    rs3Of (encR4 rs3 f2 rs2 rs1 rm rd op) = rs3 := by
  apply BitVec.eq_of_getLsbD_eq
  intro i hi
  simp only [rs3Of, getLsbD_encR4, BitVec.getLsbD_extractLsb']
  grind

/-- The seven high bits of the 6-bit shift-amount form are its fixed bits and shamt[5]. -/
theorem funct7Of_encShift6 (f6 : BitVec 6) (shamt : BitVec 6) (rs1 : Reg) (f3 : BitVec 3) (rd : Reg)
    (op : BitVec 7) : funct7Of (encShift6 f6 shamt rs1 f3 rd op) = f6 ++ shamt.extractLsb' 5 1 := by
  apply BitVec.eq_of_getLsbD_eq
  intro i hi
  simp only [funct7Of, getLsbD_encShift6, BitVec.getLsbD_extractLsb', BitVec.getLsbD_append]
  grind

end Sys2Proof.Laws
end

