-- ==== Sys2Proof/Laws/State.lean ====
section
/-! SUPPORT. One lemma per field of State per update, so that no later proof unfolds a record update. -/

namespace Sys2Proof.Machine

/-! ### The start of a run -/

@[simp] theorem State.launch_x (l : Launch) : (State.launch l).x = l.x := rfl
@[simp] theorem State.launch_pc (l : Launch) : (State.launch l).pc = l.resetPc := rfl
@[simp] theorem State.launch_cycle (l : Launch) : (State.launch l).cycle = l.cycle := rfl
@[simp] theorem State.launch_time (l : Launch) : (State.launch l).time = l.time := rfl
@[simp] theorem State.launch_instret (l : Launch) : (State.launch l).instret = l.instret := rfl
@[simp] theorem State.launch_mem (l : Launch) : (State.launch l).mem = l.mem := rfl
@[simp] theorem State.launch_stale (l : Launch) : (State.launch l).stale = [] := rfl
@[simp] theorem State.launch_trap (l : Launch) : (State.launch l).trap = none := rfl
@[simp] theorem State.launch_cfg (l : Launch) : (State.launch l).cfg = l.cfg := rfl
@[simp] theorem State.launch_draws (l : Launch) : (State.launch l).draws = 0 := rfl

/-! ### Writing a register -/

@[simp] theorem writeX_pc (s : State) (r : Reg) (v : Word) :
    (writeX s r v).pc = s.pc := by unfold writeX; split <;> rfl
@[simp] theorem writeX_cycle (s : State) (r : Reg) (v : Word) :
    (writeX s r v).cycle = s.cycle := by unfold writeX; split <;> rfl
@[simp] theorem writeX_time (s : State) (r : Reg) (v : Word) :
    (writeX s r v).time = s.time := by unfold writeX; split <;> rfl
@[simp] theorem writeX_instret (s : State) (r : Reg) (v : Word) :
    (writeX s r v).instret = s.instret := by unfold writeX; split <;> rfl
@[simp] theorem writeX_mem (s : State) (r : Reg) (v : Word) :
    (writeX s r v).mem = s.mem := by unfold writeX; split <;> rfl
@[simp] theorem writeX_stale (s : State) (r : Reg) (v : Word) :
    (writeX s r v).stale = s.stale := by unfold writeX; split <;> rfl
@[simp] theorem writeX_trap (s : State) (r : Reg) (v : Word) :
    (writeX s r v).trap = s.trap := by unfold writeX; split <;> rfl
@[simp] theorem writeX_cfg (s : State) (r : Reg) (v : Word) :
    (writeX s r v).cfg = s.cfg := by unfold writeX; split <;> rfl
@[simp] theorem writeX_draws (s : State) (r : Reg) (v : Word) :
    (writeX s r v).draws = s.draws := by unfold writeX; split <;> rfl

/-! ### Retiring -/

@[simp] theorem retireTo_x (s : State) (t : Word) :
    (retireTo s t).x = s.x := rfl
@[simp] theorem retireTo_pc (s : State) (t : Word) :
    (retireTo s t).pc = t := rfl
@[simp] theorem retireTo_cycle (s : State) (t : Word) :
    (retireTo s t).cycle = s.cycle := rfl
@[simp] theorem retireTo_time (s : State) (t : Word) :
    (retireTo s t).time = s.time := rfl
@[simp] theorem retireTo_instret (s : State) (t : Word) :
    (retireTo s t).instret = bumpInstret s := rfl
@[simp] theorem retireTo_mem (s : State) (t : Word) :
    (retireTo s t).mem = s.mem := rfl
@[simp] theorem retireTo_stale (s : State) (t : Word) :
    (retireTo s t).stale = s.stale := rfl
@[simp] theorem retireTo_trap (s : State) (t : Word) :
    (retireTo s t).trap = s.trap := rfl
@[simp] theorem retireTo_cfg (s : State) (t : Word) :
    (retireTo s t).cfg = s.cfg := rfl
@[simp] theorem retireTo_draws (s : State) (t : Word) :
    (retireTo s t).draws = s.draws := rfl

@[simp] theorem retire_x (s : State) :
    (retire s).x = s.x := rfl
@[simp] theorem retire_pc (s : State) :
    (retire s).pc = s.pc + 4#32 := rfl
@[simp] theorem retire_cycle (s : State) :
    (retire s).cycle = s.cycle := rfl
@[simp] theorem retire_time (s : State) :
    (retire s).time = s.time := rfl
@[simp] theorem retire_instret (s : State) :
    (retire s).instret = bumpInstret s := rfl
@[simp] theorem retire_mem (s : State) :
    (retire s).mem = s.mem := rfl
@[simp] theorem retire_stale (s : State) :
    (retire s).stale = s.stale := rfl
@[simp] theorem retire_trap (s : State) :
    (retire s).trap = s.trap := rfl
@[simp] theorem retire_cfg (s : State) :
    (retire s).cfg = s.cfg := rfl
@[simp] theorem retire_draws (s : State) :
    (retire s).draws = s.draws := rfl

/-! ### Taking an exception and resuming -/

@[simp] theorem takeException_x (s : State) (e : Exc) (v : Option Word) :
    (takeException s e v).x = s.x := rfl
@[simp] theorem takeException_pc (s : State) (e : Exc) (v : Option Word) :
    (takeException s e v).pc = s.pc := rfl
@[simp] theorem takeException_cycle (s : State) (e : Exc) (v : Option Word) :
    (takeException s e v).cycle = s.cycle := rfl
@[simp] theorem takeException_time (s : State) (e : Exc) (v : Option Word) :
    (takeException s e v).time = s.time := rfl
@[simp] theorem takeException_instret (s : State) (e : Exc) (v : Option Word) :
    (takeException s e v).instret = s.instret := rfl
@[simp] theorem takeException_mem (s : State) (e : Exc) (v : Option Word) :
    (takeException s e v).mem = s.mem := rfl
@[simp] theorem takeException_stale (s : State) (e : Exc) (v : Option Word) :
    (takeException s e v).stale = s.stale := rfl
@[simp] theorem takeException_trap (s : State) (e : Exc) (v : Option Word) :
    (takeException s e v).trap = some { exc := e, pc := s.pc, value := v } := rfl
@[simp] theorem takeException_cfg (s : State) (e : Exc) (v : Option Word) :
    (takeException s e v).cfg = s.cfg := rfl
@[simp] theorem takeException_draws (s : State) (e : Exc) (v : Option Word) :
    (takeException s e v).draws = s.draws := rfl

@[simp] theorem resume_x (s : State) :
    (resume s).x = s.x := rfl
@[simp] theorem resume_pc (s : State) :
    (resume s).pc = s.pc := rfl
@[simp] theorem resume_cycle (s : State) :
    (resume s).cycle = s.cycle := rfl
@[simp] theorem resume_time (s : State) :
    (resume s).time = s.time := rfl
@[simp] theorem resume_instret (s : State) :
    (resume s).instret = s.instret := rfl
@[simp] theorem resume_mem (s : State) :
    (resume s).mem = s.mem := rfl
@[simp] theorem resume_stale (s : State) :
    (resume s).stale = s.stale := rfl
@[simp] theorem resume_trap (s : State) :
    (resume s).trap = none := rfl
@[simp] theorem resume_cfg (s : State) :
    (resume s).cfg = s.cfg := rfl
@[simp] theorem resume_draws (s : State) :
    (resume s).draws = s.draws := rfl

/-! ### Storing -/

@[simp] theorem storeByte_x (s : State) (a : Word) (b : Byte) :
    (storeByte s a b).x = s.x := rfl
@[simp] theorem storeByte_pc (s : State) (a : Word) (b : Byte) :
    (storeByte s a b).pc = s.pc := rfl
@[simp] theorem storeByte_cycle (s : State) (a : Word) (b : Byte) :
    (storeByte s a b).cycle = s.cycle := rfl
@[simp] theorem storeByte_time (s : State) (a : Word) (b : Byte) :
    (storeByte s a b).time = s.time := rfl
@[simp] theorem storeByte_instret (s : State) (a : Word) (b : Byte) :
    (storeByte s a b).instret = s.instret := rfl
@[simp] theorem storeByte_mem (s : State) (a : Word) (b : Byte) :
    (storeByte s a b).mem = Memory.write s.mem a.toNat b := rfl
@[simp] theorem storeByte_stale (s : State) (a : Word) (b : Byte) :
    (storeByte s a b).stale = staleInsert s.stale a.toNat := rfl
@[simp] theorem storeByte_trap (s : State) (a : Word) (b : Byte) :
    (storeByte s a b).trap = s.trap := rfl
@[simp] theorem storeByte_cfg (s : State) (a : Word) (b : Byte) :
    (storeByte s a b).cfg = s.cfg := rfl
@[simp] theorem storeByte_draws (s : State) (a : Word) (b : Byte) :
    (storeByte s a b).draws = s.draws := rfl

@[simp] theorem storeBytes_x (s : State) (a : Word) (bs : List Byte) :
    (storeBytes s a bs).x = s.x := by
  induction bs generalizing s a with
  | nil => rfl
  | cons b rest ih => exact (ih (storeByte s a b) (a + 1#32)).trans (storeByte_x s a b)
@[simp] theorem storeBytes_pc (s : State) (a : Word) (bs : List Byte) :
    (storeBytes s a bs).pc = s.pc := by
  induction bs generalizing s a with
  | nil => rfl
  | cons b rest ih => exact (ih (storeByte s a b) (a + 1#32)).trans (storeByte_pc s a b)
@[simp] theorem storeBytes_cycle (s : State) (a : Word) (bs : List Byte) :
    (storeBytes s a bs).cycle = s.cycle := by
  induction bs generalizing s a with
  | nil => rfl
  | cons b rest ih => exact (ih (storeByte s a b) (a + 1#32)).trans (storeByte_cycle s a b)
@[simp] theorem storeBytes_time (s : State) (a : Word) (bs : List Byte) :
    (storeBytes s a bs).time = s.time := by
  induction bs generalizing s a with
  | nil => rfl
  | cons b rest ih => exact (ih (storeByte s a b) (a + 1#32)).trans (storeByte_time s a b)
@[simp] theorem storeBytes_instret (s : State) (a : Word) (bs : List Byte) :
    (storeBytes s a bs).instret = s.instret := by
  induction bs generalizing s a with
  | nil => rfl
  | cons b rest ih => exact (ih (storeByte s a b) (a + 1#32)).trans (storeByte_instret s a b)
@[simp] theorem storeBytes_trap (s : State) (a : Word) (bs : List Byte) :
    (storeBytes s a bs).trap = s.trap := by
  induction bs generalizing s a with
  | nil => rfl
  | cons b rest ih => exact (ih (storeByte s a b) (a + 1#32)).trans (storeByte_trap s a b)
@[simp] theorem storeBytes_cfg (s : State) (a : Word) (bs : List Byte) :
    (storeBytes s a bs).cfg = s.cfg := by
  induction bs generalizing s a with
  | nil => rfl
  | cons b rest ih => exact (ih (storeByte s a b) (a + 1#32)).trans (storeByte_cfg s a b)
@[simp] theorem storeBytes_draws (s : State) (a : Word) (bs : List Byte) :
    (storeBytes s a bs).draws = s.draws := by
  induction bs generalizing s a with
  | nil => rfl
  | cons b rest ih => exact (ih (storeByte s a b) (a + 1#32)).trans (storeByte_draws s a b)

/-! ### Between two steps -/

@[simp] theorem betweenSteps_x (s : State) :
    (betweenSteps s).x = s.x := rfl
@[simp] theorem betweenSteps_pc (s : State) :
    (betweenSteps s).pc = s.pc := rfl
@[simp] theorem betweenSteps_cycle (s : State) :
    (betweenSteps s).cycle = advance s.cycle (Config.cycleAdvance s.draws) := rfl
@[simp] theorem betweenSteps_time (s : State) :
    (betweenSteps s).time = advance s.time (Config.timeAdvance s.draws) := rfl
@[simp] theorem betweenSteps_instret (s : State) :
    (betweenSteps s).instret = (if s.cfg.envQuiet || s.trap.isSome then s.instret else advance s.instret (Config.instretAdvance s.draws)) := rfl
@[simp] theorem betweenSteps_mem (s : State) :
    (betweenSteps s).mem = s.mem := rfl
@[simp] theorem betweenSteps_stale (s : State) :
    (betweenSteps s).stale = s.stale := rfl
@[simp] theorem betweenSteps_trap (s : State) :
    (betweenSteps s).trap = s.trap := rfl
@[simp] theorem betweenSteps_cfg (s : State) :
    (betweenSteps s).cfg = s.cfg := rfl
@[simp] theorem betweenSteps_draws (s : State) :
    (betweenSteps s).draws = s.draws + 1 := rfl

/-! ### Reading through an update: the registers and memory a read sees -/

theorem readX_congr {s t : State} (h : t.x = s.x) (r : Reg) : readX t r = readX s r := by
  simp only [readX, h]

theorem byteAt_congr {s t : State} (h : t.mem = s.mem) (a : Word) : byteAt t a = byteAt s a := by
  simp only [byteAt, h]

@[simp] theorem readX_retireTo (s : State) (t : Word) (r : Reg) : readX (retireTo s t) r = readX s r := rfl
@[simp] theorem byteAt_retireTo (s : State) (t : Word) (a : Word) : byteAt (retireTo s t) a = byteAt s a := rfl
@[simp] theorem readX_retire (s : State) (r : Reg) : readX (retire s) r = readX s r := rfl
@[simp] theorem byteAt_retire (s : State) (a : Word) : byteAt (retire s) a = byteAt s a := rfl
@[simp] theorem readX_takeException (s : State) (e : Exc) (v : Option Word) (r : Reg) : readX (takeException s e v) r = readX s r := rfl
@[simp] theorem byteAt_takeException (s : State) (e : Exc) (v : Option Word) (a : Word) : byteAt (takeException s e v) a = byteAt s a := rfl
@[simp] theorem readX_resume (s : State) (r : Reg) : readX (resume s) r = readX s r := rfl
@[simp] theorem byteAt_resume (s : State) (a : Word) : byteAt (resume s) a = byteAt s a := rfl
@[simp] theorem readX_betweenSteps (s : State) (r : Reg) : readX (betweenSteps s) r = readX s r := rfl
@[simp] theorem byteAt_betweenSteps (s : State) (a : Word) : byteAt (betweenSteps s) a = byteAt s a := rfl

@[simp] theorem readX_storeBytes (s : State) (a : Word) (bs : List Byte) (r : Reg) :
    readX (storeBytes s a bs) r = readX s r := readX_congr (storeBytes_x s a bs) r

@[simp] theorem byteAt_writeX (s : State) (r : Reg) (v : Word) (a : Word) :
    byteAt (writeX s r v) a = byteAt s a := byteAt_congr (writeX_mem s r v) a

end Sys2Proof.Machine
end

