-- ==== Sys2Proof/Laws/Memory.lean ====
section
/-! SUPPORT. Registers, memory and the set `stale`: what a read gives after a write, and that every operation keeps the
canonical form. -/

namespace Sys2Proof.Machine

/-! ### Registers -/

@[simp] theorem readX_zero (s : State) : readX s 0#5 = 0#32 := rfl

@[simp] theorem writeX_zero (s : State) (v : Word) : writeX s 0#5 v = s := rfl

theorem readX_writeX (s : State) (r q : Reg) (v : Word) :
    readX (writeX s r v) q = if q = r ∧ r ≠ 0#5 then v else readX s q := by
  by_cases hr : r = 0#5
  · simp [hr]
  · by_cases hq : q = 0#5
    · simp [hq, Ne.symm hr]
    · have hr' : r.toNat ≠ 0 := fun h => hr (BitVec.eq_of_toNat_eq h)
      have hq' : q.toNat ≠ 0 := fun h => hq (BitVec.eq_of_toNat_eq h)
      have hk : (r.toNat - 1 = q.toNat - 1) ↔ q = r := by
        constructor
        · intro h
          exact BitVec.eq_of_toNat_eq (by omega)
        · intro h
          rw [h]
      simp only [readX, writeX, hr, hq, if_false, Vector.getElem_set, hk]
      by_cases hqr : q = r <;> simp [hqr, hr]

theorem readX_writeX_same (s : State) {r : Reg} (v : Word) (h : r ≠ 0#5) : readX (writeX s r v) r = v := by
  simp [readX_writeX, h]

theorem readX_writeX_other (s : State) {r q : Reg} (v : Word) (h : q ≠ r) :
    readX (writeX s r v) q = readX s q := by
  simp [readX_writeX, h]

/-! ### Memory -/

theorem Memory.read_erase (m : Memory) (a x : Nat) :
    Memory.read (Memory.erase m a) x = if x = a then unlistedByte else Memory.read m x := by
  induction m with
  | nil => simp [Memory.erase, Memory.read]
  | cons c rest ih => simp only [Memory.erase, Memory.read]; grind [Memory.read]

theorem Memory.key_of_mem_erase {m : Memory} {a : Nat} {c : Host.Cell} (h : c ∈ Memory.erase m a) :
    c.1 ≠ a ∧ c ∈ m := by
  induction m with
  | nil => simp [Memory.erase] at h
  | cons d rest ih => simp only [Memory.erase] at h; grind

theorem Memory.read_insert {m : Memory} {a : Nat} (b : Byte) (x : Nat) (h : ∀ c ∈ m, c.1 ≠ a) :
    Memory.read (Memory.insert m a b) x = if x = a then b else Memory.read m x := by
  induction m with
  | nil => simp only [Memory.insert, Memory.read]; grind
  | cons c rest ih =>
    have ih' := ih (fun d hd => h d (List.mem_cons_of_mem _ hd))
    have hc := h c List.mem_cons_self
    simp only [Memory.insert]
    split
    · simp only [Memory.read]; grind
    · simp only [Memory.read, ih']; grind

/-- A read after a write: the byte written at its address, everything else as before. -/
theorem Memory.read_write (m : Memory) (a : Nat) (b : Byte) (x : Nat) :
    Memory.read (Memory.write m a b) x = if x = a then b else Memory.read m x := by
  simp only [Memory.write]
  split
  · rename_i h; rw [Memory.read_erase, h]
  · rw [Memory.read_insert b x (fun c hc => (Memory.key_of_mem_erase hc).1), Memory.read_erase]
    grind

theorem Memory.wfFrom_mono {m : Memory} {low low' : Nat} (h : Memory.wfFrom low m = true) (hl : low' ≤ low) :
    Memory.wfFrom low' m = true := by
  cases m with
  | nil => rfl
  | cons c rest => simp only [Memory.wfFrom, Bool.and_eq_true, decide_eq_true_eq] at h ⊢; grind

theorem Memory.wfFrom_erase {m : Memory} {low : Nat} (a : Nat) (h : Memory.wfFrom low m = true) :
    Memory.wfFrom low (Memory.erase m a) = true := by
  induction m generalizing low with
  | nil => rfl
  | cons c rest ih =>
    simp only [Memory.wfFrom, Bool.and_eq_true, decide_eq_true_eq] at h
    simp only [Memory.erase]
    split
    · exact Memory.wfFrom_mono (ih h.2) (by omega)
    · simp only [Memory.wfFrom, Bool.and_eq_true, decide_eq_true_eq]
      exact ⟨h.1, ih h.2⟩

theorem Memory.wfFrom_insert {m : Memory} {low a : Nat} {b : Byte} (h : Memory.wfFrom low m = true) (hl : low ≤ a)
    (ha : a < 4294967296) (hb : b ≠ unlistedByte) (hk : ∀ c ∈ m, c.1 ≠ a) :
    Memory.wfFrom low (Memory.insert m a b) = true := by
  induction m generalizing low with
  | nil => simp [Memory.insert, Memory.wfFrom, hl, ha, hb]
  | cons c rest ih =>
    have hc := hk c List.mem_cons_self
    simp only [Memory.wfFrom, Bool.and_eq_true, decide_eq_true_eq] at h
    simp only [Memory.insert]
    split
    · simp only [Memory.wfFrom, Bool.and_eq_true, decide_eq_true_eq]
      exact ⟨⟨⟨hl, ha⟩, hb⟩, ⟨⟨by omega, h.1.1.2⟩, h.1.2⟩, h.2⟩
    · simp only [Memory.wfFrom, Bool.and_eq_true, decide_eq_true_eq]
      exact ⟨h.1, ih h.2 (by omega) (fun d hd => hk d (List.mem_cons_of_mem _ hd))⟩

/-- Erasing keeps the canonical form. -/
theorem Memory.wf_erase {m : Memory} (a : Nat) (h : Memory.wf m = true) : Memory.wf (Memory.erase m a) = true :=
  Memory.wfFrom_erase a h

/-- A write to an address of 32 bits keeps the canonical form. -/
theorem Memory.wf_write {m : Memory} {a : Nat} (b : Byte) (h : Memory.wf m = true) (ha : a < 4294967296) :
    Memory.wf (Memory.write m a b) = true := by
  simp only [Memory.write]
  split
  · exact Memory.wf_erase a h
  · exact Memory.wfFrom_insert (Memory.wf_erase a h) (Nat.zero_le a) ha ‹_›
      (fun c hc => (Memory.key_of_mem_erase hc).1)

/-! ### The set `stale` -/

theorem mem_staleInsert (l : List Nat) (a x : Nat) : x ∈ staleInsert l a ↔ x = a ∨ x ∈ l := by
  induction l with
  | nil => simp [staleInsert]
  | cons b rest ih => simp only [staleInsert]; grind

theorem mem_staleErase (l : List Nat) (a x : Nat) : x ∈ staleErase l a ↔ x ≠ a ∧ x ∈ l := by
  induction l with
  | nil => simp [staleErase]
  | cons b rest ih => simp only [staleErase]; grind

theorem staleWfFrom_mono {l : List Nat} {low low' : Nat} (h : staleWfFrom low l = true) (hl : low' ≤ low) :
    staleWfFrom low' l = true := by
  cases l with
  | nil => rfl
  | cons b rest => simp only [staleWfFrom, Bool.and_eq_true, decide_eq_true_eq] at h ⊢; grind

theorem staleWfFrom_insert {l : List Nat} {low a : Nat} (h : staleWfFrom low l = true) (hl : low ≤ a)
    (ha : a < 4294967296) : staleWfFrom low (staleInsert l a) = true := by
  induction l generalizing low with
  | nil => simp [staleInsert, staleWfFrom, hl, ha]
  | cons b rest ih =>
    have h' := h
    simp only [staleWfFrom, Bool.and_eq_true, decide_eq_true_eq] at h
    simp only [staleInsert]
    split
    · simp only [staleWfFrom, Bool.and_eq_true, decide_eq_true_eq]
      exact ⟨⟨hl, ha⟩, ⟨by omega, h.1.2⟩, h.2⟩
    · split
      · exact h'
      · simp only [staleWfFrom, Bool.and_eq_true, decide_eq_true_eq]
        exact ⟨h.1, ih h.2 (by omega)⟩

theorem staleWfFrom_erase {l : List Nat} {low : Nat} (a : Nat) (h : staleWfFrom low l = true) :
    staleWfFrom low (staleErase l a) = true := by
  induction l generalizing low with
  | nil => rfl
  | cons b rest ih =>
    simp only [staleWfFrom, Bool.and_eq_true, decide_eq_true_eq] at h
    simp only [staleErase]
    split
    · exact staleWfFrom_mono (ih h.2) (by omega)
    · simp only [staleWfFrom, Bool.and_eq_true, decide_eq_true_eq]
      exact ⟨h.1, ih h.2⟩

/-! ### Storing bytes -/

theorem byteAt_storeByte (s : State) (a : Word) (b : Byte) (x : Word) :
    byteAt (storeByte s a b) x = if x = a then b else byteAt s x := by
  simp only [byteAt, storeByte_mem, Memory.read_write, ← BitVec.toNat_inj]

/-- The store leaves every byte outside the stored ones as it was. -/
theorem byteAt_storeBytes_outside (s : State) (a : Word) (bs : List Byte) (x : Word)
    (h : ∀ i < bs.length, x ≠ a + BitVec.ofNat 32 i) : byteAt (storeBytes s a bs) x = byteAt s x := by
  induction bs generalizing s a with
  | nil => rfl
  | cons b rest ih =>
    have h0 : x ≠ a := by simpa using h 0 (by simp)
    have hr : ∀ i < rest.length, x ≠ a + 1#32 + BitVec.ofNat 32 i := by
      intro i hi
      have := h (i + 1) (by simpa using hi)
      rwa [BitVec.ofNat_add, BitVec.add_comm (BitVec.ofNat 32 i), ← BitVec.add_assoc] at this
    simp only [storeBytes]
    rw [ih (storeByte s a b) (a + 1#32) hr, byteAt_storeByte, if_neg h0]

/-- The store puts the bytes at consecutive addresses, as long as they do not run over the whole address space. -/
theorem byteAt_storeBytes_inside (s : State) (a : Word) (bs : List Byte) (i : Nat) (hi : i < bs.length)
    (hl : bs.length ≤ 4294967296) : byteAt (storeBytes s a bs) (a + BitVec.ofNat 32 i) = bs[i] := by
  induction bs generalizing s a i with
  | nil => simp at hi
  | cons b rest ih =>
    simp only [storeBytes]
    cases i with
    | zero =>
      rw [byteAt_storeBytes_outside]
      · simp [byteAt_storeByte]
      · intro j hj
        simp only [List.length_cons] at hl
        have : j < 4294967295 := by omega
        intro h
        have h' := congrArg BitVec.toNat h
        simp only [BitVec.toNat_add, BitVec.toNat_ofNat] at h'
        have ha := a.isLt
        omega
    | succ j =>
      simp only [List.length_cons] at hl hi
      have h' := ih (storeByte s a b) (a + 1#32) j (by omega) (by omega)
      rw [BitVec.add_assoc, BitVec.add_comm 1#32, ← BitVec.ofNat_add] at h'
      simpa using h'

theorem mem_stale_storeBytes (s : State) (a : Word) (bs : List Byte) (x : Nat) :
    x ∈ (storeBytes s a bs).stale ↔ x ∈ s.stale ∨ ∃ i < bs.length, x = (a + BitVec.ofNat 32 i).toNat := by
  induction bs generalizing s a with
  | nil => simp [storeBytes]
  | cons b rest ih =>
    simp only [storeBytes, ih, storeByte_stale, mem_staleInsert]
    constructor
    · rintro ((h | h) | ⟨i, hi, h⟩)
      · exact Or.inr ⟨0, by simp, by simpa using h⟩
      · exact Or.inl h
      · refine Or.inr ⟨i + 1, by simpa using hi, ?_⟩
        rw [h, BitVec.add_assoc, BitVec.add_comm 1#32, ← BitVec.ofNat_add]
    · rintro (h | ⟨i, hi, h⟩)
      · exact Or.inl (Or.inr h)
      · cases i with
        | zero => exact Or.inl (Or.inl (by simpa using h))
        | succ j =>
          refine Or.inr ⟨j, by simpa using hi, ?_⟩
          rw [h, BitVec.add_assoc, BitVec.add_comm 1#32, ← BitVec.ofNat_add]

theorem wf_mem_storeBytes {s : State} (a : Word) (bs : List Byte) (h : Memory.wf s.mem = true) :
    Memory.wf (storeBytes s a bs).mem = true := by
  induction bs generalizing s a with
  | nil => exact h
  | cons b rest ih => exact ih (a + 1#32) (Memory.wf_write b h a.isLt)

theorem wf_stale_storeBytes {s : State} (a : Word) (bs : List Byte) (h : staleWfFrom 0 s.stale = true) :
    staleWfFrom 0 (storeBytes s a bs).stale = true := by
  induction bs generalizing s a with
  | nil => exact h
  | cons b rest ih => exact ih (a + 1#32) (staleWfFrom_insert h (Nat.zero_le _) a.isLt)

end Sys2Proof.Machine
end

