-- ==== Sys2Proof/Laws/Ops.lean ====
section
/-! SUPPORT. One lemma per shared operation that says once everything it can do; proofs about an instruction cite it
instead of unfolding the operation. -/

namespace Sys2Proof.Machine

/-- The shared end of a register-writing instruction always completes. -/
theorem writeAndRetire_eq (s : State) (rd : Reg) (v : Word) :
    writeAndRetire s rd v = .next (retire (writeX s rd v)) := rfl

/-- Raising an exception always answers the state before the instruction with the trap recorded. -/
theorem raise_eq (s : State) (e : Exc) (v : Option Word) : raise s e v = .next (takeException s e v) := rfl

/-- An illegal instruction records its word. -/
theorem illegal_eq (i : Instr) (s : State) :
    illegal i s = .next (takeException s .illegalInstruction (some (encode i))) := rfl

theorem targetMisaligned_iff (t : Word) : targetMisaligned t = true ↔ t.extractLsb' 0 2 ≠ 0#2 := by
  simp [targetMisaligned]

/-- What JAL and JALR can do from their target on. -/
theorem jumpAndLink_cases {s t : State} {rd : Reg} {target : Word} (h : jumpAndLink s rd target = .next t) :
    (targetMisaligned target = true ∧ t = takeException s .instructionAddressMisaligned (some target)) ∨
    (targetMisaligned target = false ∧ t = retireTo (writeX s rd (s.pc + 4#32)) target) := by
  simp only [jumpAndLink] at h
  split at h
  · exact .inl ⟨‹_›, by simpa [raise] using h.symm⟩
  · exact .inr ⟨Bool.eq_false_of_not_eq_true ‹_›, by simpa using h.symm⟩

/-- What a branch can do from its condition on. -/
theorem branchIf_cases {s t : State} {taken : Bool} {off : BitVec 13} (h : branchIf s taken off = .next t) :
    (taken = true ∧ targetMisaligned (s.pc + immB off) = true ∧
      t = takeException s .instructionAddressMisaligned (some (s.pc + immB off))) ∨
    (taken = true ∧ targetMisaligned (s.pc + immB off) = false ∧ t = retireTo s (s.pc + immB off)) ∨
    (taken = false ∧ t = retire s) := by
  simp only [branchIf] at h
  split at h
  · split at h
    · exact .inl ⟨‹_›, ‹_›, by simpa [raise] using h.symm⟩
    · exact .inr (.inl ⟨‹_›, by simpa using ‹¬(targetMisaligned _ = true)›, by simpa using h.symm⟩)
  · exact .inr (.inr ⟨Bool.eq_false_of_not_eq_true ‹_›, by simpa using h.symm⟩)

/-- What a load can do. -/
theorem loadTo_cases {s t : State} {rd : Reg} {ea : Word} {n : Nat} {v : Word} (h : loadTo s rd ea n v = .next t) :
    (∃ r, loadCheck s ea n = some r ∧ t = takeException s r.exc (some r.value)) ∨
    (loadCheck s ea n = none ∧ t = retire (writeX s rd v)) := by
  simp only [loadTo] at h
  split at h
  · exact .inl ⟨_, ‹_›, by simpa [raise] using h.symm⟩
  · exact .inr ⟨‹_›, by simpa [writeAndRetire] using h.symm⟩

/-- What a store can do. -/
theorem storeFrom_cases {s t : State} {ea : Word} {n : Nat} {v : Word} (h : storeFrom s ea n v = .next t) :
    (∃ r, storeCheck s ea n = some r ∧ t = takeException s r.exc (some r.value)) ∨
    (storeCheck s ea n = none ∧ t = retire (storeBytes s ea (storedBytes v n))) := by
  simp only [storeFrom] at h
  split at h
  · exact .inl ⟨_, ‹_›, by simpa [raise] using h.symm⟩
  · exact .inr ⟨‹_›, by simpa using h.symm⟩

/-- When a load raises nothing, and what it raises otherwise. -/
theorem loadCheck_none_iff (s : State) (a : Word) (n : Nat) :
    loadCheck s a n = none ↔ misalignedTraps s.cfg a n = false ∧ legalRange s.cfg .load a n = true := by
  simp only [loadCheck]
  split
  · simp_all
  · split <;> simp_all

theorem loadCheck_some {s : State} {a : Word} {n : Nat} {r : Raise} (h : loadCheck s a n = some r) :
    (misalignedTraps s.cfg a n = true ∧ r = ⟨.loadAddressMisaligned, a⟩) ∨
    (misalignedTraps s.cfg a n = false ∧ legalRange s.cfg .load a n = false ∧ r = ⟨.loadAccessFault, a⟩) := by
  simp only [loadCheck] at h
  split at h
  · exact .inl ⟨‹_›, by simpa using h.symm⟩
  · split at h
    · simp at h
    · exact .inr ⟨by simpa using ‹¬(misalignedTraps _ _ _ = true)›, by simpa using ‹¬(legalRange _ _ _ _ = true)›,
        by simpa using h.symm⟩

/-- When a store raises nothing, and what it raises otherwise. -/
theorem storeCheck_none_iff (s : State) (a : Word) (n : Nat) :
    storeCheck s a n = none ↔ misalignedTraps s.cfg a n = false ∧ legalRange s.cfg .store a n = true := by
  simp only [storeCheck]
  split
  · simp_all
  · split <;> simp_all

theorem storeCheck_some {s : State} {a : Word} {n : Nat} {r : Raise} (h : storeCheck s a n = some r) :
    (misalignedTraps s.cfg a n = true ∧ r = ⟨.storeAddressMisaligned, a⟩) ∨
    (misalignedTraps s.cfg a n = false ∧ legalRange s.cfg .store a n = false ∧ r = ⟨.storeAccessFault, a⟩) := by
  simp only [storeCheck] at h
  split at h
  · exact .inl ⟨‹_›, by simpa using h.symm⟩
  · split at h
    · simp at h
    · exact .inr ⟨by simpa using ‹¬(misalignedTraps _ _ _ = true)›, by simpa using ‹¬(legalRange _ _ _ _ = true)›,
        by simpa using h.symm⟩

/-- `Legal` for a range is `Legal` for each of its bytes. -/
theorem legalRange_iff (c : Config) (k : AccessKind) (a : Word) (n : Nat) :
    legalRange c k a n = true ↔ ∀ i < n, legalByte c k (a + BitVec.ofNat 32 i) = true := by
  simp [legalRange]

/-- A byte of the range is stale. -/
theorem staleTouches_iff (s : State) (a : Word) (n : Nat) :
    staleTouches s a n = true ↔ ∃ i < n, (a + BitVec.ofNat 32 i).toNat ∈ s.stale := by
  simp [staleTouches]

/-- A fetch is stale exactly where its four bytes are legal and one of them is. -/
theorem fetch_eq_stale_iff (s : State) :
    fetch s = .stale ↔ legalRange s.cfg .fetch s.pc 4 = true ∧ staleTouches s s.pc 4 = true := by
  unfold fetch
  split <;> [split; skip] <;> simp_all

/-- `CAUSE(e)` stands in the list of numbers at the place of the exception. -/
theorem numbers_getElem?_ctorIdx (c : Config) (e : Exc) : c.cause.numbers[e.ctorIdx]? = some (causeOf c e) := by
  cases e <;> rfl

/-- Under an injective `CAUSE` the number identifies the exception. -/
theorem causeOf_inj {c : Config} (h : CauseTable.wf c.cause = true) (e f : Exc) :
    causeOf c e = causeOf c f ↔ e = f := by
  refine ⟨fun he => ?_, congrArg _⟩
  have hi : e.ctorIdx = f.ctorIdx := by
    have hl := (List.getElem?_eq_some_iff.1 (numbers_getElem?_ctorIdx c e)).1
    refine (List.getElem?_inj hl (of_decide_eq_true h)).1 ?_
    rw [numbers_getElem?_ctorIdx, numbers_getElem?_ctorIdx, he]
  cases e <;> cases f <;> first | rfl | cases hi

/-- The CSR check passes exactly for an implemented CSR and a form that does not write. -/
theorem csrCheck_eq_some {a : BitVec 12} {w : Bool} {c : Csr} :
    csrCheck a w = some c ↔ csrAt a = some c ∧ w = false := by
  unfold csrCheck
  cases hc : csrAt a with
  | none => simp
  | some d => cases d <;> cases w <;> simp [csrReadOnly]

theorem csrCheck_writes (a : BitVec 12) : csrCheck a true = none := by
  unfold csrCheck
  cases hc : csrAt a with
  | none => rfl
  | some d => cases d <;> rfl

/-- A CSR form that does not write completes with the old value in rd. -/
theorem csrComplete_read (s : State) (c : Csr) (rd : Reg) :
    csrComplete s c rd true none = .next (retire (writeX s rd (csrRead s c))) := rfl

/-- A counter never decreases when it advances. -/
theorem advance_toNat (c : Counter) (k : Nat) :
    (advance c k).toNat = c.toNat + k % (18446744073709551616 - c.toNat) := by
  have hc := c.isLt
  have hk : k % (18446744073709551616 - c.toNat) < 18446744073709551616 - c.toNat := Nat.mod_lt _ (by omega)
  simp only [advance, BitVec.toNat_ofNat]
  exact Nat.mod_eq_of_lt (by omega)

theorem le_advance (c : Counter) (k : Nat) : c.toNat ≤ (advance c k).toNat := by
  rw [advance_toNat]
  omega

/-- One more instruction retired, away from the largest value. -/
theorem bumpInstret_eq (s : State) (h : s.instret ≠ BitVec.allOnes 64) : bumpInstret s = s.instret + 1#64 := by
  rw [bumpInstret, if_neg h]

end Sys2Proof.Machine
end

