-- ==== Sys2Proof/Laws/Exec.lean ====
section
/-! SUPPORT. Once, everything an instruction can do: the ways `exec` can end, and which of them each instruction has.
Proofs about all instructions take `exec_cases` apart instead of unfolding `exec`. -/

namespace Sys2Proof.Machine

set_option Elab.async false

/-- The recorded value of an exception an instruction raises. -/
def ValueFits (i : Instr) (s : State) (e : Exc) (v : Option Word) : Prop :=
  match e with
  | .illegalInstruction => v = some (encode i)
  | .breakpoint => v = none
  | .environmentCall => v = none
  | .instructionAddressMisaligned => v = jumpTarget i s ∧ ∃ a, v = some a ∧ targetMisaligned a = true
  | .instructionAccessFault => False
  | .loadAddressMisaligned => v = accessAddress i s ∧ v ≠ none
  | .loadAccessFault => v = accessAddress i s ∧ v ≠ none
  | .storeAddressMisaligned => v = accessAddress i s ∧ v ≠ none
  | .storeAccessFault => v = accessAddress i s ∧ v ≠ none

/-- The ways an instruction can end. -/
inductive Ends (i : Instr) (s : State) : State → Prop where
  | traps (e : Exc) (v : Option Word) (allowed : mayRaise i e = true) (fits : ValueFits i s e v) :
      Ends i s (takeException s e v)
  | writes (rd : Reg) (v : Word) (isDestination : destination i = some rd) : Ends i s (retire (writeX s rd v))
  | links (rd : Reg) (target : Word) (isDestination : destination i = some rd)
      (aligned : targetMisaligned target = false) : Ends i s (retireTo (writeX s rd (s.pc + 4#32)) target)
  | goes (target : Word) (aligned : targetMisaligned target = false) : Ends i s (retireTo s target)
  | falls : Ends i s (retire s)
  | stores (ea : Word) (n : Nat) (v : Word) (isAStore : isStore i = true) (atAddress : some ea = accessAddress i s)
      (ofWidth : storeWidth i = n) :
      Ends i s (retire (storeBytes s ea (storedBytes v n)))
  | empties (isFenceI : i = .fenceI) : Ends i s (retire { s with stale := [] })

theorem ends_jumpAndLink {i : Instr} {s t : State} {rd : Reg} {target : Word} (h : jumpAndLink s rd target = .next t)
    (hd : destination i = some rd) (hr : mayRaise i .instructionAddressMisaligned = true)
    (ht : some target = jumpTarget i s) : Ends i s t := by
  obtain ⟨hm, rfl⟩ | ⟨hm, rfl⟩ := jumpAndLink_cases h
  · exact .traps _ _ hr ⟨ht, target, rfl, hm⟩
  · exact .links rd target hd hm

theorem ends_branchIf {i : Instr} {s t : State} {taken : Bool} {off : BitVec 13} (h : branchIf s taken off = .next t)
    (hr : mayRaise i .instructionAddressMisaligned = true) (ht : some (s.pc + immB off) = jumpTarget i s) :
    Ends i s t := by
  obtain ⟨-, hm, rfl⟩ | ⟨-, hm, rfl⟩ | ⟨-, rfl⟩ := branchIf_cases h
  · exact .traps _ _ hr ⟨ht, _, rfl, hm⟩
  · exact .goes _ hm
  · exact .falls

theorem ends_loadTo {i : Instr} {s t : State} {rd : Reg} {ea v : Word} {n : Nat} (h : loadTo s rd ea n v = .next t)
    (hd : destination i = some rd) (hf : mayRaise i .loadAccessFault = true)
    (hm : misalignedTraps s.cfg ea n = true → mayRaise i .loadAddressMisaligned = true)
    (ha : some ea = accessAddress i s) : Ends i s t := by
  obtain ⟨r, hr, rfl⟩ | ⟨-, rfl⟩ := loadTo_cases h
  · obtain ⟨hc, rfl⟩ | ⟨-, -, rfl⟩ := loadCheck_some hr
    · exact .traps _ _ (hm hc) ⟨ha, nofun⟩
    · exact .traps _ _ hf ⟨ha, nofun⟩
  · exact .writes rd v hd

theorem ends_storeFrom {i : Instr} {s t : State} {ea v : Word} {n : Nat} (h : storeFrom s ea n v = .next t)
    (hs : isStore i = true) (hf : mayRaise i .storeAccessFault = true)
    (hm : misalignedTraps s.cfg ea n = true → mayRaise i .storeAddressMisaligned = true)
    (ha : some ea = accessAddress i s) (hw : storeWidth i = n) : Ends i s t := by
  obtain ⟨r, hr, rfl⟩ | ⟨-, rfl⟩ := storeFrom_cases h
  · obtain ⟨hc, rfl⟩ | ⟨-, -, rfl⟩ := storeCheck_some hr
    · exact .traps _ _ (hm hc) ⟨ha, nofun⟩
    · exact .traps _ _ hf ⟨ha, nofun⟩
  · exact .stores ea n v hs ha hw

/-- A byte access is aligned. -/
theorem misalignedTraps_one (c : Config) (a : Word) : misalignedTraps c a 1 = false := by
  simp [misalignedTraps, Nat.mod_one]

theorem ends_write {i : Instr} {s t : State} {rd : Reg} {v : Word} (h : writeAndRetire s rd v = .next t)
    (hd : destination i = some rd) : Ends i s t := by
  cases h
  exact .writes rd v hd

theorem ends_raise {i : Instr} {s t : State} {e : Exc} {v : Option Word} (h : raise s e v = .next t)
    (hr : mayRaise i e = true) (hv : ValueFits i s e v) : Ends i s t := by
  cases h
  exact .traps e v hr hv

/-- A CSR form that always writes ends in the illegal-instruction exception. -/
theorem ends_csr_write {i : Instr} {s t : State} {csr : BitVec 12} {f : Csr → StepResult}
    (h : (match csrCheck csr true with | none => illegal i s | some c => f c) = .next t)
    (hr : mayRaise i .illegalInstruction = true) : Ends i s t := by
  rw [csrCheck_writes] at h
  exact ends_raise h hr rfl

/-- A CSR form that writes under a condition completes without writing, or ends in the exception. -/
theorem ends_csr_read {i : Instr} {s t : State} {csr : BitVec 12} {rd : Reg} {x : BitVec 5} {f : Csr → Word}
    (h : (match csrCheck csr (x != 0#5) with
      | none => illegal i s
      | some c => csrComplete s c rd true (if x = 0#5 then none else some (f c))) = .next t)
    (hd : destination i = some rd) (hr : mayRaise i .illegalInstruction = true) : Ends i s t := by
  split at h
  · exact ends_raise h hr rfl
  · rename_i c hc
    have hx : x = 0#5 := by simpa using (csrCheck_eq_some.1 hc).2
    rw [if_pos hx, csrComplete_read] at h
    exact ends_write h hd

/-- Everything an instruction can do. -/
theorem exec_cases {i : Instr} {s t : State} (h : exec i s = .next t) : Ends i s t := by
  cases i
  all_goals first
    | exact ends_raise h rfl rfl
    | exact ends_write h rfl
    | exact ends_branchIf h rfl rfl
    | exact ends_jumpAndLink h rfl rfl rfl
    | exact ends_loadTo h rfl rfl (fun _ => rfl) rfl
    | exact ends_loadTo h rfl rfl (by rw [misalignedTraps_one]; exact nofun) rfl
    | exact ends_storeFrom h rfl rfl (fun _ => rfl) rfl rfl
    | exact ends_storeFrom h rfl rfl (by rw [misalignedTraps_one]; exact nofun) rfl rfl
    | exact ends_csr_write h rfl
    | exact ends_csr_read h rfl rfl
    | (cases h; exact .falls)
    | (cases h; exact .empties rfl)
    | (simp only [exec, execSlliRv64, execSrliRv64, execSraiRv64] at h
       split at h
       · exact ends_raise h rfl rfl
       · exact ends_write h rfl)

end Sys2Proof.Machine
end

