-- ==== Sys2Proof/Laws/PerInstr.lean ====
section
/-! SUPPORT. The family DecodeEncode: decoding the encoding of a well-formed instruction gives it back, one lemma per
constructor of `Instr`. Each computes by the field lemmas of Laws/Encoding.lean. -/

namespace Sys2Proof.Laws

set_option Elab.async false

/-- Decoding the encoding of the instruction, if it is well formed, gives the instruction. -/
def DecodeEncode.Statement (i : Instr) : Prop := i.wf = true → decode (encode i) = .ok i

theorem DecodeEncode.lui (rd : Reg) (imm : BitVec 20) : DecodeEncode.Statement (.lui rd imm) := by
  intro _
  simp [encode, decode]

theorem DecodeEncode.auipc (rd : Reg) (imm : BitVec 20) : DecodeEncode.Statement (.auipc rd imm) := by
  intro _
  simp [encode, decode]

theorem DecodeEncode.jal (rd : Reg) (off : BitVec 21) : DecodeEncode.Statement (.jal rd off) := by
  intro h
  have hev : offsetEven off = true := h
  simp [encode, decode, hev]

theorem DecodeEncode.jalr (rd : Reg) (rs1 : Reg) (imm : BitVec 12) : DecodeEncode.Statement (.jalr rd rs1 imm) := by
  intro _
  simp [encode, decode, decodeJalr]

theorem DecodeEncode.beq (rs1 : Reg) (rs2 : Reg) (off : BitVec 13) : DecodeEncode.Statement (.beq rs1 rs2 off) := by
  intro h
  have hev : offsetEven off = true := h
  simp [encode, decode, decodeBranch, hev]

theorem DecodeEncode.bne (rs1 : Reg) (rs2 : Reg) (off : BitVec 13) : DecodeEncode.Statement (.bne rs1 rs2 off) := by
  intro h
  have hev : offsetEven off = true := h
  simp [encode, decode, decodeBranch, hev]

theorem DecodeEncode.blt (rs1 : Reg) (rs2 : Reg) (off : BitVec 13) : DecodeEncode.Statement (.blt rs1 rs2 off) := by
  intro h
  have hev : offsetEven off = true := h
  simp [encode, decode, decodeBranch, hev]

theorem DecodeEncode.bge (rs1 : Reg) (rs2 : Reg) (off : BitVec 13) : DecodeEncode.Statement (.bge rs1 rs2 off) := by
  intro h
  have hev : offsetEven off = true := h
  simp [encode, decode, decodeBranch, hev]

theorem DecodeEncode.bltu (rs1 : Reg) (rs2 : Reg) (off : BitVec 13) : DecodeEncode.Statement (.bltu rs1 rs2 off) := by
  intro h
  have hev : offsetEven off = true := h
  simp [encode, decode, decodeBranch, hev]

theorem DecodeEncode.bgeu (rs1 : Reg) (rs2 : Reg) (off : BitVec 13) : DecodeEncode.Statement (.bgeu rs1 rs2 off) := by
  intro h
  have hev : offsetEven off = true := h
  simp [encode, decode, decodeBranch, hev]

theorem DecodeEncode.lb (rd : Reg) (rs1 : Reg) (imm : BitVec 12) : DecodeEncode.Statement (.lb rd rs1 imm) := by
  intro _
  simp [encode, decode, decodeLoad]

theorem DecodeEncode.lh (rd : Reg) (rs1 : Reg) (imm : BitVec 12) : DecodeEncode.Statement (.lh rd rs1 imm) := by
  intro _
  simp [encode, decode, decodeLoad]

theorem DecodeEncode.lw (rd : Reg) (rs1 : Reg) (imm : BitVec 12) : DecodeEncode.Statement (.lw rd rs1 imm) := by
  intro _
  simp [encode, decode, decodeLoad]

theorem DecodeEncode.lbu (rd : Reg) (rs1 : Reg) (imm : BitVec 12) : DecodeEncode.Statement (.lbu rd rs1 imm) := by
  intro _
  simp [encode, decode, decodeLoad]

theorem DecodeEncode.lhu (rd : Reg) (rs1 : Reg) (imm : BitVec 12) : DecodeEncode.Statement (.lhu rd rs1 imm) := by
  intro _
  simp [encode, decode, decodeLoad]

theorem DecodeEncode.sb (rs1 : Reg) (rs2 : Reg) (imm : BitVec 12) : DecodeEncode.Statement (.sb rs1 rs2 imm) := by
  intro _
  simp [encode, decode, decodeStore]

theorem DecodeEncode.sh (rs1 : Reg) (rs2 : Reg) (imm : BitVec 12) : DecodeEncode.Statement (.sh rs1 rs2 imm) := by
  intro _
  simp [encode, decode, decodeStore]

theorem DecodeEncode.sw (rs1 : Reg) (rs2 : Reg) (imm : BitVec 12) : DecodeEncode.Statement (.sw rs1 rs2 imm) := by
  intro _
  simp [encode, decode, decodeStore]

theorem DecodeEncode.addi (rd : Reg) (rs1 : Reg) (imm : BitVec 12) : DecodeEncode.Statement (.addi rd rs1 imm) := by
  intro _
  simp [encode, decode, decodeOpImm]

theorem DecodeEncode.slti (rd : Reg) (rs1 : Reg) (imm : BitVec 12) : DecodeEncode.Statement (.slti rd rs1 imm) := by
  intro _
  simp [encode, decode, decodeOpImm]

theorem DecodeEncode.sltiu (rd : Reg) (rs1 : Reg) (imm : BitVec 12) : DecodeEncode.Statement (.sltiu rd rs1 imm) := by
  intro _
  simp [encode, decode, decodeOpImm]

theorem DecodeEncode.xori (rd : Reg) (rs1 : Reg) (imm : BitVec 12) : DecodeEncode.Statement (.xori rd rs1 imm) := by
  intro _
  simp [encode, decode, decodeOpImm]

theorem DecodeEncode.ori (rd : Reg) (rs1 : Reg) (imm : BitVec 12) : DecodeEncode.Statement (.ori rd rs1 imm) := by
  intro _
  simp [encode, decode, decodeOpImm]

theorem DecodeEncode.andi (rd : Reg) (rs1 : Reg) (imm : BitVec 12) : DecodeEncode.Statement (.andi rd rs1 imm) := by
  intro _
  simp [encode, decode, decodeOpImm]

theorem DecodeEncode.slli (rd : Reg) (rs1 : Reg) (shamt : BitVec 5) : DecodeEncode.Statement (.slli rd rs1 shamt) := by
  intro _
  simp [encode, decode, decodeOpImm, decodeShiftLeft]

theorem DecodeEncode.srli (rd : Reg) (rs1 : Reg) (shamt : BitVec 5) : DecodeEncode.Statement (.srli rd rs1 shamt) := by
  intro _
  simp [encode, decode, decodeOpImm, decodeShiftRight]

theorem DecodeEncode.srai (rd : Reg) (rs1 : Reg) (shamt : BitVec 5) : DecodeEncode.Statement (.srai rd rs1 shamt) := by
  intro _
  simp [encode, decode, decodeOpImm, decodeShiftRight]

theorem DecodeEncode.add (rd : Reg) (rs1 : Reg) (rs2 : Reg) : DecodeEncode.Statement (.add rd rs1 rs2) := by
  intro _
  simp [encode, decode, decodeOp]

theorem DecodeEncode.sub (rd : Reg) (rs1 : Reg) (rs2 : Reg) : DecodeEncode.Statement (.sub rd rs1 rs2) := by
  intro _
  simp [encode, decode, decodeOp]

theorem DecodeEncode.sll (rd : Reg) (rs1 : Reg) (rs2 : Reg) : DecodeEncode.Statement (.sll rd rs1 rs2) := by
  intro _
  simp [encode, decode, decodeOp]

theorem DecodeEncode.slt (rd : Reg) (rs1 : Reg) (rs2 : Reg) : DecodeEncode.Statement (.slt rd rs1 rs2) := by
  intro _
  simp [encode, decode, decodeOp]

theorem DecodeEncode.sltu (rd : Reg) (rs1 : Reg) (rs2 : Reg) : DecodeEncode.Statement (.sltu rd rs1 rs2) := by
  intro _
  simp [encode, decode, decodeOp]

theorem DecodeEncode.xor (rd : Reg) (rs1 : Reg) (rs2 : Reg) : DecodeEncode.Statement (.xor rd rs1 rs2) := by
  intro _
  simp [encode, decode, decodeOp]

theorem DecodeEncode.srl (rd : Reg) (rs1 : Reg) (rs2 : Reg) : DecodeEncode.Statement (.srl rd rs1 rs2) := by
  intro _
  simp [encode, decode, decodeOp]

theorem DecodeEncode.sra (rd : Reg) (rs1 : Reg) (rs2 : Reg) : DecodeEncode.Statement (.sra rd rs1 rs2) := by
  intro _
  simp [encode, decode, decodeOp]

theorem DecodeEncode.or (rd : Reg) (rs1 : Reg) (rs2 : Reg) : DecodeEncode.Statement (.or rd rs1 rs2) := by
  intro _
  simp [encode, decode, decodeOp]

theorem DecodeEncode.and (rd : Reg) (rs1 : Reg) (rs2 : Reg) : DecodeEncode.Statement (.and rd rs1 rs2) := by
  intro _
  simp [encode, decode, decodeOp]

theorem DecodeEncode.fence (pred : BitVec 4) (succ : BitVec 4) : DecodeEncode.Statement (.fence pred succ) := by
  intro _
  simp [encode, decode, decodeMiscMem]

theorem DecodeEncode.fenceI : DecodeEncode.Statement (.fenceI) := by
  intro _
  decide

theorem DecodeEncode.ecall : DecodeEncode.Statement (.ecall) := by
  intro _
  decide

theorem DecodeEncode.ebreak : DecodeEncode.Statement (.ebreak) := by
  intro _
  decide

theorem DecodeEncode.csrrw (rd : Reg) (csr : BitVec 12) (rs1 : Reg) : DecodeEncode.Statement (.csrrw rd csr rs1) := by
  intro _
  simp [encode, decode, decodeSystem]

theorem DecodeEncode.csrrs (rd : Reg) (csr : BitVec 12) (rs1 : Reg) : DecodeEncode.Statement (.csrrs rd csr rs1) := by
  intro _
  simp [encode, decode, decodeSystem]

theorem DecodeEncode.csrrc (rd : Reg) (csr : BitVec 12) (rs1 : Reg) : DecodeEncode.Statement (.csrrc rd csr rs1) := by
  intro _
  simp [encode, decode, decodeSystem]

theorem DecodeEncode.csrrwi (rd : Reg) (csr : BitVec 12) (uimm : BitVec 5) : DecodeEncode.Statement (.csrrwi rd csr uimm) := by
  intro _
  simp [encode, decode, decodeSystem]

theorem DecodeEncode.csrrsi (rd : Reg) (csr : BitVec 12) (uimm : BitVec 5) : DecodeEncode.Statement (.csrrsi rd csr uimm) := by
  intro _
  simp [encode, decode, decodeSystem]

theorem DecodeEncode.csrrci (rd : Reg) (csr : BitVec 12) (uimm : BitVec 5) : DecodeEncode.Statement (.csrrci rd csr uimm) := by
  intro _
  simp [encode, decode, decodeSystem]

theorem DecodeEncode.mul (rd : Reg) (rs1 : Reg) (rs2 : Reg) : DecodeEncode.Statement (.mul rd rs1 rs2) := by
  intro _
  simp [encode, decode, decodeOp]

theorem DecodeEncode.mulh (rd : Reg) (rs1 : Reg) (rs2 : Reg) : DecodeEncode.Statement (.mulh rd rs1 rs2) := by
  intro _
  simp [encode, decode, decodeOp]

theorem DecodeEncode.mulhsu (rd : Reg) (rs1 : Reg) (rs2 : Reg) : DecodeEncode.Statement (.mulhsu rd rs1 rs2) := by
  intro _
  simp [encode, decode, decodeOp]

theorem DecodeEncode.mulhu (rd : Reg) (rs1 : Reg) (rs2 : Reg) : DecodeEncode.Statement (.mulhu rd rs1 rs2) := by
  intro _
  simp [encode, decode, decodeOp]

theorem DecodeEncode.div (rd : Reg) (rs1 : Reg) (rs2 : Reg) : DecodeEncode.Statement (.div rd rs1 rs2) := by
  intro _
  simp [encode, decode, decodeOp]

theorem DecodeEncode.divu (rd : Reg) (rs1 : Reg) (rs2 : Reg) : DecodeEncode.Statement (.divu rd rs1 rs2) := by
  intro _
  simp [encode, decode, decodeOp]

theorem DecodeEncode.rem (rd : Reg) (rs1 : Reg) (rs2 : Reg) : DecodeEncode.Statement (.rem rd rs1 rs2) := by
  intro _
  simp [encode, decode, decodeOp]

theorem DecodeEncode.remu (rd : Reg) (rs1 : Reg) (rs2 : Reg) : DecodeEncode.Statement (.remu rd rs1 rs2) := by
  intro _
  simp [encode, decode, decodeOp]

theorem DecodeEncode.lwu (rd : Reg) (rs1 : Reg) (imm : BitVec 12) : DecodeEncode.Statement (.lwu rd rs1 imm) := by
  intro _
  simp [encode, decode, decodeLoad]

theorem DecodeEncode.ld (rd : Reg) (rs1 : Reg) (imm : BitVec 12) : DecodeEncode.Statement (.ld rd rs1 imm) := by
  intro _
  simp [encode, decode, decodeLoad]

theorem DecodeEncode.sd (rs1 : Reg) (rs2 : Reg) (imm : BitVec 12) : DecodeEncode.Statement (.sd rs1 rs2 imm) := by
  intro _
  simp [encode, decode, decodeStore]

theorem DecodeEncode.slliRv64 (rd : Reg) (rs1 : Reg) (shamt : BitVec 6) : DecodeEncode.Statement (.slliRv64 rd rs1 shamt) := by
  intro h
  have h5 : shamt.getLsbD 5 = true := h
  have e : shamt.extractLsb' 5 1 = 1#1 := by
    apply BitVec.eq_of_getLsbD_eq
    intro i hi
    simp only [BitVec.getLsbD_extractLsb']
    grind
  simp [encode, decode, decodeOpImm, decodeShiftLeft, funct7Of_encShift6, e]

theorem DecodeEncode.srliRv64 (rd : Reg) (rs1 : Reg) (shamt : BitVec 6) : DecodeEncode.Statement (.srliRv64 rd rs1 shamt) := by
  intro h
  have h5 : shamt.getLsbD 5 = true := h
  have e : shamt.extractLsb' 5 1 = 1#1 := by
    apply BitVec.eq_of_getLsbD_eq
    intro i hi
    simp only [BitVec.getLsbD_extractLsb']
    grind
  simp [encode, decode, decodeOpImm, decodeShiftRight, funct7Of_encShift6, e]

theorem DecodeEncode.sraiRv64 (rd : Reg) (rs1 : Reg) (shamt : BitVec 6) : DecodeEncode.Statement (.sraiRv64 rd rs1 shamt) := by
  intro h
  have h5 : shamt.getLsbD 5 = true := h
  have e : shamt.extractLsb' 5 1 = 1#1 := by
    apply BitVec.eq_of_getLsbD_eq
    intro i hi
    simp only [BitVec.getLsbD_extractLsb']
    grind
  simp [encode, decode, decodeOpImm, decodeShiftRight, funct7Of_encShift6, e]

theorem DecodeEncode.addiw (rd : Reg) (rs1 : Reg) (imm : BitVec 12) : DecodeEncode.Statement (.addiw rd rs1 imm) := by
  intro _
  simp [encode, decode, decodeOpImm32]

theorem DecodeEncode.slliw (rd : Reg) (rs1 : Reg) (shamt : BitVec 5) : DecodeEncode.Statement (.slliw rd rs1 shamt) := by
  intro _
  simp [encode, decode, decodeOpImm32]

theorem DecodeEncode.srliw (rd : Reg) (rs1 : Reg) (shamt : BitVec 5) : DecodeEncode.Statement (.srliw rd rs1 shamt) := by
  intro _
  simp [encode, decode, decodeOpImm32]

theorem DecodeEncode.sraiw (rd : Reg) (rs1 : Reg) (shamt : BitVec 5) : DecodeEncode.Statement (.sraiw rd rs1 shamt) := by
  intro _
  simp [encode, decode, decodeOpImm32]

theorem DecodeEncode.addw (rd : Reg) (rs1 : Reg) (rs2 : Reg) : DecodeEncode.Statement (.addw rd rs1 rs2) := by
  intro _
  simp [encode, decode, decodeOp32]

theorem DecodeEncode.subw (rd : Reg) (rs1 : Reg) (rs2 : Reg) : DecodeEncode.Statement (.subw rd rs1 rs2) := by
  intro _
  simp [encode, decode, decodeOp32]

theorem DecodeEncode.sllw (rd : Reg) (rs1 : Reg) (rs2 : Reg) : DecodeEncode.Statement (.sllw rd rs1 rs2) := by
  intro _
  simp [encode, decode, decodeOp32]

theorem DecodeEncode.srlw (rd : Reg) (rs1 : Reg) (rs2 : Reg) : DecodeEncode.Statement (.srlw rd rs1 rs2) := by
  intro _
  simp [encode, decode, decodeOp32]

theorem DecodeEncode.sraw (rd : Reg) (rs1 : Reg) (rs2 : Reg) : DecodeEncode.Statement (.sraw rd rs1 rs2) := by
  intro _
  simp [encode, decode, decodeOp32]

theorem DecodeEncode.mulw (rd : Reg) (rs1 : Reg) (rs2 : Reg) : DecodeEncode.Statement (.mulw rd rs1 rs2) := by
  intro _
  simp [encode, decode, decodeOp32]

theorem DecodeEncode.divw (rd : Reg) (rs1 : Reg) (rs2 : Reg) : DecodeEncode.Statement (.divw rd rs1 rs2) := by
  intro _
  simp [encode, decode, decodeOp32]

theorem DecodeEncode.divuw (rd : Reg) (rs1 : Reg) (rs2 : Reg) : DecodeEncode.Statement (.divuw rd rs1 rs2) := by
  intro _
  simp [encode, decode, decodeOp32]

theorem DecodeEncode.remw (rd : Reg) (rs1 : Reg) (rs2 : Reg) : DecodeEncode.Statement (.remw rd rs1 rs2) := by
  intro _
  simp [encode, decode, decodeOp32]

theorem DecodeEncode.remuw (rd : Reg) (rs1 : Reg) (rs2 : Reg) : DecodeEncode.Statement (.remuw rd rs1 rs2) := by
  intro _
  simp [encode, decode, decodeOp32]

theorem DecodeEncode.lrW (rd : Reg) (rs1 : Reg) (aq : BitVec 1) (rl : BitVec 1) : DecodeEncode.Statement (.lrW rd rs1 aq rl) := by
  intro _
  simp [encode, decode, decodeAmo]

theorem DecodeEncode.scW (rd : Reg) (rs1 : Reg) (rs2 : Reg) (aq : BitVec 1) (rl : BitVec 1) : DecodeEncode.Statement (.scW rd rs1 rs2 aq rl) := by
  intro _
  simp [encode, decode, decodeAmo]

theorem DecodeEncode.amoswapW (rd : Reg) (rs1 : Reg) (rs2 : Reg) (aq : BitVec 1) (rl : BitVec 1) : DecodeEncode.Statement (.amoswapW rd rs1 rs2 aq rl) := by
  intro _
  simp [encode, decode, decodeAmo]

theorem DecodeEncode.amoaddW (rd : Reg) (rs1 : Reg) (rs2 : Reg) (aq : BitVec 1) (rl : BitVec 1) : DecodeEncode.Statement (.amoaddW rd rs1 rs2 aq rl) := by
  intro _
  simp [encode, decode, decodeAmo]

theorem DecodeEncode.amoxorW (rd : Reg) (rs1 : Reg) (rs2 : Reg) (aq : BitVec 1) (rl : BitVec 1) : DecodeEncode.Statement (.amoxorW rd rs1 rs2 aq rl) := by
  intro _
  simp [encode, decode, decodeAmo]

theorem DecodeEncode.amoandW (rd : Reg) (rs1 : Reg) (rs2 : Reg) (aq : BitVec 1) (rl : BitVec 1) : DecodeEncode.Statement (.amoandW rd rs1 rs2 aq rl) := by
  intro _
  simp [encode, decode, decodeAmo]

theorem DecodeEncode.amoorW (rd : Reg) (rs1 : Reg) (rs2 : Reg) (aq : BitVec 1) (rl : BitVec 1) : DecodeEncode.Statement (.amoorW rd rs1 rs2 aq rl) := by
  intro _
  simp [encode, decode, decodeAmo]

theorem DecodeEncode.amominW (rd : Reg) (rs1 : Reg) (rs2 : Reg) (aq : BitVec 1) (rl : BitVec 1) : DecodeEncode.Statement (.amominW rd rs1 rs2 aq rl) := by
  intro _
  simp [encode, decode, decodeAmo]

theorem DecodeEncode.amomaxW (rd : Reg) (rs1 : Reg) (rs2 : Reg) (aq : BitVec 1) (rl : BitVec 1) : DecodeEncode.Statement (.amomaxW rd rs1 rs2 aq rl) := by
  intro _
  simp [encode, decode, decodeAmo]

theorem DecodeEncode.amominuW (rd : Reg) (rs1 : Reg) (rs2 : Reg) (aq : BitVec 1) (rl : BitVec 1) : DecodeEncode.Statement (.amominuW rd rs1 rs2 aq rl) := by
  intro _
  simp [encode, decode, decodeAmo]

theorem DecodeEncode.amomaxuW (rd : Reg) (rs1 : Reg) (rs2 : Reg) (aq : BitVec 1) (rl : BitVec 1) : DecodeEncode.Statement (.amomaxuW rd rs1 rs2 aq rl) := by
  intro _
  simp [encode, decode, decodeAmo]

theorem DecodeEncode.lrD (rd : Reg) (rs1 : Reg) (aq : BitVec 1) (rl : BitVec 1) : DecodeEncode.Statement (.lrD rd rs1 aq rl) := by
  intro _
  simp [encode, decode, decodeAmo]

theorem DecodeEncode.scD (rd : Reg) (rs1 : Reg) (rs2 : Reg) (aq : BitVec 1) (rl : BitVec 1) : DecodeEncode.Statement (.scD rd rs1 rs2 aq rl) := by
  intro _
  simp [encode, decode, decodeAmo]

theorem DecodeEncode.amoswapD (rd : Reg) (rs1 : Reg) (rs2 : Reg) (aq : BitVec 1) (rl : BitVec 1) : DecodeEncode.Statement (.amoswapD rd rs1 rs2 aq rl) := by
  intro _
  simp [encode, decode, decodeAmo]

theorem DecodeEncode.amoaddD (rd : Reg) (rs1 : Reg) (rs2 : Reg) (aq : BitVec 1) (rl : BitVec 1) : DecodeEncode.Statement (.amoaddD rd rs1 rs2 aq rl) := by
  intro _
  simp [encode, decode, decodeAmo]

theorem DecodeEncode.amoxorD (rd : Reg) (rs1 : Reg) (rs2 : Reg) (aq : BitVec 1) (rl : BitVec 1) : DecodeEncode.Statement (.amoxorD rd rs1 rs2 aq rl) := by
  intro _
  simp [encode, decode, decodeAmo]

theorem DecodeEncode.amoandD (rd : Reg) (rs1 : Reg) (rs2 : Reg) (aq : BitVec 1) (rl : BitVec 1) : DecodeEncode.Statement (.amoandD rd rs1 rs2 aq rl) := by
  intro _
  simp [encode, decode, decodeAmo]

theorem DecodeEncode.amoorD (rd : Reg) (rs1 : Reg) (rs2 : Reg) (aq : BitVec 1) (rl : BitVec 1) : DecodeEncode.Statement (.amoorD rd rs1 rs2 aq rl) := by
  intro _
  simp [encode, decode, decodeAmo]

theorem DecodeEncode.amominD (rd : Reg) (rs1 : Reg) (rs2 : Reg) (aq : BitVec 1) (rl : BitVec 1) : DecodeEncode.Statement (.amominD rd rs1 rs2 aq rl) := by
  intro _
  simp [encode, decode, decodeAmo]

theorem DecodeEncode.amomaxD (rd : Reg) (rs1 : Reg) (rs2 : Reg) (aq : BitVec 1) (rl : BitVec 1) : DecodeEncode.Statement (.amomaxD rd rs1 rs2 aq rl) := by
  intro _
  simp [encode, decode, decodeAmo]

theorem DecodeEncode.amominuD (rd : Reg) (rs1 : Reg) (rs2 : Reg) (aq : BitVec 1) (rl : BitVec 1) : DecodeEncode.Statement (.amominuD rd rs1 rs2 aq rl) := by
  intro _
  simp [encode, decode, decodeAmo]

theorem DecodeEncode.amomaxuD (rd : Reg) (rs1 : Reg) (rs2 : Reg) (aq : BitVec 1) (rl : BitVec 1) : DecodeEncode.Statement (.amomaxuD rd rs1 rs2 aq rl) := by
  intro _
  simp [encode, decode, decodeAmo]

theorem DecodeEncode.flw (rd : Reg) (rs1 : Reg) (imm : BitVec 12) : DecodeEncode.Statement (.flw rd rs1 imm) := by
  intro _
  simp [encode, decode, decodeLoadFp]

theorem DecodeEncode.fsw (rs1 : Reg) (rs2 : Reg) (imm : BitVec 12) : DecodeEncode.Statement (.fsw rs1 rs2 imm) := by
  intro _
  simp [encode, decode, decodeStoreFp]

theorem DecodeEncode.fmaddS (rd : Reg) (rs1 : Reg) (rs2 : Reg) (rs3 : Reg) (rm : BitVec 3) : DecodeEncode.Statement (.fmaddS rd rs1 rs2 rs3 rm) := by
  intro _
  simp [encode, decode, decodeMadd]

theorem DecodeEncode.fmsubS (rd : Reg) (rs1 : Reg) (rs2 : Reg) (rs3 : Reg) (rm : BitVec 3) : DecodeEncode.Statement (.fmsubS rd rs1 rs2 rs3 rm) := by
  intro _
  simp [encode, decode, decodeMsub]

theorem DecodeEncode.fnmsubS (rd : Reg) (rs1 : Reg) (rs2 : Reg) (rs3 : Reg) (rm : BitVec 3) : DecodeEncode.Statement (.fnmsubS rd rs1 rs2 rs3 rm) := by
  intro _
  simp [encode, decode, decodeNmsub]

theorem DecodeEncode.fnmaddS (rd : Reg) (rs1 : Reg) (rs2 : Reg) (rs3 : Reg) (rm : BitVec 3) : DecodeEncode.Statement (.fnmaddS rd rs1 rs2 rs3 rm) := by
  intro _
  simp [encode, decode, decodeNmadd]

theorem DecodeEncode.faddS (rd : Reg) (rs1 : Reg) (rs2 : Reg) (rm : BitVec 3) : DecodeEncode.Statement (.faddS rd rs1 rs2 rm) := by
  intro _
  simp [encode, decode, decodeOpFp]

theorem DecodeEncode.fsubS (rd : Reg) (rs1 : Reg) (rs2 : Reg) (rm : BitVec 3) : DecodeEncode.Statement (.fsubS rd rs1 rs2 rm) := by
  intro _
  simp [encode, decode, decodeOpFp]

theorem DecodeEncode.fmulS (rd : Reg) (rs1 : Reg) (rs2 : Reg) (rm : BitVec 3) : DecodeEncode.Statement (.fmulS rd rs1 rs2 rm) := by
  intro _
  simp [encode, decode, decodeOpFp]

theorem DecodeEncode.fdivS (rd : Reg) (rs1 : Reg) (rs2 : Reg) (rm : BitVec 3) : DecodeEncode.Statement (.fdivS rd rs1 rs2 rm) := by
  intro _
  simp [encode, decode, decodeOpFp]

theorem DecodeEncode.fsqrtS (rd : Reg) (rs1 : Reg) (rm : BitVec 3) : DecodeEncode.Statement (.fsqrtS rd rs1 rm) := by
  intro _
  simp [encode, decode, decodeOpFp]

theorem DecodeEncode.fsgnjS (rd : Reg) (rs1 : Reg) (rs2 : Reg) : DecodeEncode.Statement (.fsgnjS rd rs1 rs2) := by
  intro _
  simp [encode, decode, decodeOpFp]

theorem DecodeEncode.fsgnjnS (rd : Reg) (rs1 : Reg) (rs2 : Reg) : DecodeEncode.Statement (.fsgnjnS rd rs1 rs2) := by
  intro _
  simp [encode, decode, decodeOpFp]

theorem DecodeEncode.fsgnjxS (rd : Reg) (rs1 : Reg) (rs2 : Reg) : DecodeEncode.Statement (.fsgnjxS rd rs1 rs2) := by
  intro _
  simp [encode, decode, decodeOpFp]

theorem DecodeEncode.fminS (rd : Reg) (rs1 : Reg) (rs2 : Reg) : DecodeEncode.Statement (.fminS rd rs1 rs2) := by
  intro _
  simp [encode, decode, decodeOpFp]

theorem DecodeEncode.fmaxS (rd : Reg) (rs1 : Reg) (rs2 : Reg) : DecodeEncode.Statement (.fmaxS rd rs1 rs2) := by
  intro _
  simp [encode, decode, decodeOpFp]

theorem DecodeEncode.fcvtWS (rd : Reg) (rs1 : Reg) (rm : BitVec 3) : DecodeEncode.Statement (.fcvtWS rd rs1 rm) := by
  intro _
  simp [encode, decode, decodeOpFp]

theorem DecodeEncode.fcvtWuS (rd : Reg) (rs1 : Reg) (rm : BitVec 3) : DecodeEncode.Statement (.fcvtWuS rd rs1 rm) := by
  intro _
  simp [encode, decode, decodeOpFp]

theorem DecodeEncode.fmvXW (rd : Reg) (rs1 : Reg) : DecodeEncode.Statement (.fmvXW rd rs1) := by
  intro _
  simp [encode, decode, decodeOpFp]

theorem DecodeEncode.feqS (rd : Reg) (rs1 : Reg) (rs2 : Reg) : DecodeEncode.Statement (.feqS rd rs1 rs2) := by
  intro _
  simp [encode, decode, decodeOpFp]

theorem DecodeEncode.fltS (rd : Reg) (rs1 : Reg) (rs2 : Reg) : DecodeEncode.Statement (.fltS rd rs1 rs2) := by
  intro _
  simp [encode, decode, decodeOpFp]

theorem DecodeEncode.fleS (rd : Reg) (rs1 : Reg) (rs2 : Reg) : DecodeEncode.Statement (.fleS rd rs1 rs2) := by
  intro _
  simp [encode, decode, decodeOpFp]

theorem DecodeEncode.fclassS (rd : Reg) (rs1 : Reg) : DecodeEncode.Statement (.fclassS rd rs1) := by
  intro _
  simp [encode, decode, decodeOpFp]

theorem DecodeEncode.fcvtSW (rd : Reg) (rs1 : Reg) (rm : BitVec 3) : DecodeEncode.Statement (.fcvtSW rd rs1 rm) := by
  intro _
  simp [encode, decode, decodeOpFp]

theorem DecodeEncode.fcvtSWu (rd : Reg) (rs1 : Reg) (rm : BitVec 3) : DecodeEncode.Statement (.fcvtSWu rd rs1 rm) := by
  intro _
  simp [encode, decode, decodeOpFp]

theorem DecodeEncode.fmvWX (rd : Reg) (rs1 : Reg) : DecodeEncode.Statement (.fmvWX rd rs1) := by
  intro _
  simp [encode, decode, decodeOpFp]

theorem DecodeEncode.fcvtLS (rd : Reg) (rs1 : Reg) (rm : BitVec 3) : DecodeEncode.Statement (.fcvtLS rd rs1 rm) := by
  intro _
  simp [encode, decode, decodeOpFp]

theorem DecodeEncode.fcvtLuS (rd : Reg) (rs1 : Reg) (rm : BitVec 3) : DecodeEncode.Statement (.fcvtLuS rd rs1 rm) := by
  intro _
  simp [encode, decode, decodeOpFp]

theorem DecodeEncode.fcvtSL (rd : Reg) (rs1 : Reg) (rm : BitVec 3) : DecodeEncode.Statement (.fcvtSL rd rs1 rm) := by
  intro _
  simp [encode, decode, decodeOpFp]

theorem DecodeEncode.fcvtSLu (rd : Reg) (rs1 : Reg) (rm : BitVec 3) : DecodeEncode.Statement (.fcvtSLu rd rs1 rm) := by
  intro _
  simp [encode, decode, decodeOpFp]

theorem DecodeEncode.fld (rd : Reg) (rs1 : Reg) (imm : BitVec 12) : DecodeEncode.Statement (.fld rd rs1 imm) := by
  intro _
  simp [encode, decode, decodeLoadFp]

theorem DecodeEncode.fsd (rs1 : Reg) (rs2 : Reg) (imm : BitVec 12) : DecodeEncode.Statement (.fsd rs1 rs2 imm) := by
  intro _
  simp [encode, decode, decodeStoreFp]

theorem DecodeEncode.fmaddD (rd : Reg) (rs1 : Reg) (rs2 : Reg) (rs3 : Reg) (rm : BitVec 3) : DecodeEncode.Statement (.fmaddD rd rs1 rs2 rs3 rm) := by
  intro _
  simp [encode, decode, decodeMadd]

theorem DecodeEncode.fmsubD (rd : Reg) (rs1 : Reg) (rs2 : Reg) (rs3 : Reg) (rm : BitVec 3) : DecodeEncode.Statement (.fmsubD rd rs1 rs2 rs3 rm) := by
  intro _
  simp [encode, decode, decodeMsub]

theorem DecodeEncode.fnmsubD (rd : Reg) (rs1 : Reg) (rs2 : Reg) (rs3 : Reg) (rm : BitVec 3) : DecodeEncode.Statement (.fnmsubD rd rs1 rs2 rs3 rm) := by
  intro _
  simp [encode, decode, decodeNmsub]

theorem DecodeEncode.fnmaddD (rd : Reg) (rs1 : Reg) (rs2 : Reg) (rs3 : Reg) (rm : BitVec 3) : DecodeEncode.Statement (.fnmaddD rd rs1 rs2 rs3 rm) := by
  intro _
  simp [encode, decode, decodeNmadd]

theorem DecodeEncode.faddD (rd : Reg) (rs1 : Reg) (rs2 : Reg) (rm : BitVec 3) : DecodeEncode.Statement (.faddD rd rs1 rs2 rm) := by
  intro _
  simp [encode, decode, decodeOpFp]

theorem DecodeEncode.fsubD (rd : Reg) (rs1 : Reg) (rs2 : Reg) (rm : BitVec 3) : DecodeEncode.Statement (.fsubD rd rs1 rs2 rm) := by
  intro _
  simp [encode, decode, decodeOpFp]

theorem DecodeEncode.fmulD (rd : Reg) (rs1 : Reg) (rs2 : Reg) (rm : BitVec 3) : DecodeEncode.Statement (.fmulD rd rs1 rs2 rm) := by
  intro _
  simp [encode, decode, decodeOpFp]

theorem DecodeEncode.fdivD (rd : Reg) (rs1 : Reg) (rs2 : Reg) (rm : BitVec 3) : DecodeEncode.Statement (.fdivD rd rs1 rs2 rm) := by
  intro _
  simp [encode, decode, decodeOpFp]

theorem DecodeEncode.fsqrtD (rd : Reg) (rs1 : Reg) (rm : BitVec 3) : DecodeEncode.Statement (.fsqrtD rd rs1 rm) := by
  intro _
  simp [encode, decode, decodeOpFp]

theorem DecodeEncode.fsgnjD (rd : Reg) (rs1 : Reg) (rs2 : Reg) : DecodeEncode.Statement (.fsgnjD rd rs1 rs2) := by
  intro _
  simp [encode, decode, decodeOpFp]

theorem DecodeEncode.fsgnjnD (rd : Reg) (rs1 : Reg) (rs2 : Reg) : DecodeEncode.Statement (.fsgnjnD rd rs1 rs2) := by
  intro _
  simp [encode, decode, decodeOpFp]

theorem DecodeEncode.fsgnjxD (rd : Reg) (rs1 : Reg) (rs2 : Reg) : DecodeEncode.Statement (.fsgnjxD rd rs1 rs2) := by
  intro _
  simp [encode, decode, decodeOpFp]

theorem DecodeEncode.fminD (rd : Reg) (rs1 : Reg) (rs2 : Reg) : DecodeEncode.Statement (.fminD rd rs1 rs2) := by
  intro _
  simp [encode, decode, decodeOpFp]

theorem DecodeEncode.fmaxD (rd : Reg) (rs1 : Reg) (rs2 : Reg) : DecodeEncode.Statement (.fmaxD rd rs1 rs2) := by
  intro _
  simp [encode, decode, decodeOpFp]

theorem DecodeEncode.fcvtSD (rd : Reg) (rs1 : Reg) (rm : BitVec 3) : DecodeEncode.Statement (.fcvtSD rd rs1 rm) := by
  intro _
  simp [encode, decode, decodeOpFp]

theorem DecodeEncode.fcvtDS (rd : Reg) (rs1 : Reg) (rm : BitVec 3) : DecodeEncode.Statement (.fcvtDS rd rs1 rm) := by
  intro _
  simp [encode, decode, decodeOpFp]

theorem DecodeEncode.feqD (rd : Reg) (rs1 : Reg) (rs2 : Reg) : DecodeEncode.Statement (.feqD rd rs1 rs2) := by
  intro _
  simp [encode, decode, decodeOpFp]

theorem DecodeEncode.fltD (rd : Reg) (rs1 : Reg) (rs2 : Reg) : DecodeEncode.Statement (.fltD rd rs1 rs2) := by
  intro _
  simp [encode, decode, decodeOpFp]

theorem DecodeEncode.fleD (rd : Reg) (rs1 : Reg) (rs2 : Reg) : DecodeEncode.Statement (.fleD rd rs1 rs2) := by
  intro _
  simp [encode, decode, decodeOpFp]

theorem DecodeEncode.fclassD (rd : Reg) (rs1 : Reg) : DecodeEncode.Statement (.fclassD rd rs1) := by
  intro _
  simp [encode, decode, decodeOpFp]

theorem DecodeEncode.fcvtWD (rd : Reg) (rs1 : Reg) (rm : BitVec 3) : DecodeEncode.Statement (.fcvtWD rd rs1 rm) := by
  intro _
  simp [encode, decode, decodeOpFp]

theorem DecodeEncode.fcvtWuD (rd : Reg) (rs1 : Reg) (rm : BitVec 3) : DecodeEncode.Statement (.fcvtWuD rd rs1 rm) := by
  intro _
  simp [encode, decode, decodeOpFp]

theorem DecodeEncode.fcvtDW (rd : Reg) (rs1 : Reg) (rm : BitVec 3) : DecodeEncode.Statement (.fcvtDW rd rs1 rm) := by
  intro _
  simp [encode, decode, decodeOpFp]

theorem DecodeEncode.fcvtDWu (rd : Reg) (rs1 : Reg) (rm : BitVec 3) : DecodeEncode.Statement (.fcvtDWu rd rs1 rm) := by
  intro _
  simp [encode, decode, decodeOpFp]

theorem DecodeEncode.fcvtLD (rd : Reg) (rs1 : Reg) (rm : BitVec 3) : DecodeEncode.Statement (.fcvtLD rd rs1 rm) := by
  intro _
  simp [encode, decode, decodeOpFp]

theorem DecodeEncode.fcvtLuD (rd : Reg) (rs1 : Reg) (rm : BitVec 3) : DecodeEncode.Statement (.fcvtLuD rd rs1 rm) := by
  intro _
  simp [encode, decode, decodeOpFp]

theorem DecodeEncode.fmvXD (rd : Reg) (rs1 : Reg) : DecodeEncode.Statement (.fmvXD rd rs1) := by
  intro _
  simp [encode, decode, decodeOpFp]

theorem DecodeEncode.fcvtDL (rd : Reg) (rs1 : Reg) (rm : BitVec 3) : DecodeEncode.Statement (.fcvtDL rd rs1 rm) := by
  intro _
  simp [encode, decode, decodeOpFp]

theorem DecodeEncode.fcvtDLu (rd : Reg) (rs1 : Reg) (rm : BitVec 3) : DecodeEncode.Statement (.fcvtDLu rd rs1 rm) := by
  intro _
  simp [encode, decode, decodeOpFp]

theorem DecodeEncode.fmvDX (rd : Reg) (rs1 : Reg) : DecodeEncode.Statement (.fmvDX rd rs1) := by
  intro _
  simp [encode, decode, decodeOpFp]

end Sys2Proof.Laws
end

