-- ==== Sys2Proof/Machine/Assembly.lean ====
section
/-! DEFINITION. Assembly text of the executed instructions, in the operand syntax D00's examples show
(31_assembler.md R151, R152): the order of the operands, signed immediates, offsets in bytes. How a number or a
register is spelled is the model's choice (log 29). No instruction's meaning reads this file. -/

namespace Sys2Proof.Machine

/-- `op rd, rs1, rs2`. DESIGN CHOICE: a register is printed by its ABI name, here and below (31_assembler.md R150 accepts
both spellings; log 29). -/
def asmReg3 (op : String) (rd rs1 rs2 : Reg) : String :=
  op ++ " " ++ abiName rd ++ ", " ++ abiName rs1 ++ ", " ++ abiName rs2

/-- `op rd, rs1, imm`. DESIGN CHOICE: the number is printed in decimal (log 29). -/
def asmRegImm (op : String) (rd rs1 : Reg) (imm : Int) : String :=
  op ++ " " ++ abiName rd ++ ", " ++ abiName rs1 ++ ", " ++ toString imm

/-- `op rd, imm` (R151). DESIGN CHOICE: the number is printed in decimal, also the 20-bit operand of LUI and AUIPC, read as
unsigned, which the spec's examples write in hexadecimal; how a literal is spelled is left open
(91_not_in_source.md N17, 93_implementation_defined.md G18; log 29). -/
def asmUpper (op : String) (rd : Reg) (imm : Int) : String :=
  op ++ " " ++ abiName rd ++ ", " ++ toString imm

/-- `op reg, imm(rs1)`: the data register first, also for a store. DESIGN CHOICE: the number is printed in decimal
(log 29). -/
def asmMem (op : String) (reg rs1 : Reg) (imm : BitVec 12) : String :=
  op ++ " " ++ abiName reg ++ ", " ++ toString imm.toInt ++ "(" ++ abiName rs1 ++ ")"

/-- The name of a CSR (31_assembler.md R150). DESIGN CHOICE: an address that Table 19.3 gives no name is printed as its
number, in decimal; R150 is silent on it, and the spec's examples write such a number in hexadecimal (log 29). -/
def csrText (csr : BitVec 12) : String :=
  match csrTable.find? (fun r => r.number == csr) with
  | some r => r.name
  | none => toString csr.toNat

/-- `op rd, csr, rs1`. -/
def asmCsr (op : String) (rd : Reg) (csr : BitVec 12) (rs1 : Reg) : String :=
  op ++ " " ++ abiName rd ++ ", " ++ csrText csr ++ ", " ++ abiName rs1

/-- `op rd, csr, uimm`. DESIGN CHOICE: the number is printed in decimal (log 29). -/
def asmCsrImm (op : String) (rd : Reg) (csr : BitVec 12) (uimm : BitVec 5) : String :=
  op ++ " " ++ abiName rd ++ ", " ++ csrText csr ++ ", " ++ toString uimm.toNat

/-- The text of an executed instruction; none for a listed-only row, whose syntax D00 does not show. -/
def asm : Instr → Option String
  | .lui rd imm => some (asmUpper "lui" rd imm.toNat)
  | .auipc rd imm => some (asmUpper "auipc" rd imm.toNat)
  | .jal rd off => some (asmUpper "jal" rd off.toInt)
  | .jalr rd rs1 imm => some (asmRegImm "jalr" rd rs1 imm.toInt)
  | .beq rs1 rs2 off => some (asmRegImm "beq" rs1 rs2 off.toInt)
  | .bne rs1 rs2 off => some (asmRegImm "bne" rs1 rs2 off.toInt)
  | .blt rs1 rs2 off => some (asmRegImm "blt" rs1 rs2 off.toInt)
  | .bge rs1 rs2 off => some (asmRegImm "bge" rs1 rs2 off.toInt)
  | .bltu rs1 rs2 off => some (asmRegImm "bltu" rs1 rs2 off.toInt)
  | .bgeu rs1 rs2 off => some (asmRegImm "bgeu" rs1 rs2 off.toInt)
  | .lb rd rs1 imm => some (asmMem "lb" rd rs1 imm)
  | .lh rd rs1 imm => some (asmMem "lh" rd rs1 imm)
  | .lw rd rs1 imm => some (asmMem "lw" rd rs1 imm)
  | .lbu rd rs1 imm => some (asmMem "lbu" rd rs1 imm)
  | .lhu rd rs1 imm => some (asmMem "lhu" rd rs1 imm)
  | .sb rs1 rs2 imm => some (asmMem "sb" rs2 rs1 imm)
  | .sh rs1 rs2 imm => some (asmMem "sh" rs2 rs1 imm)
  | .sw rs1 rs2 imm => some (asmMem "sw" rs2 rs1 imm)
  | .addi rd rs1 imm => some (asmRegImm "addi" rd rs1 imm.toInt)
  | .slti rd rs1 imm => some (asmRegImm "slti" rd rs1 imm.toInt)
  | .sltiu rd rs1 imm => some (asmRegImm "sltiu" rd rs1 imm.toInt)
  | .xori rd rs1 imm => some (asmRegImm "xori" rd rs1 imm.toInt)
  | .ori rd rs1 imm => some (asmRegImm "ori" rd rs1 imm.toInt)
  | .andi rd rs1 imm => some (asmRegImm "andi" rd rs1 imm.toInt)
  | .slli rd rs1 shamt => some (asmRegImm "slli" rd rs1 shamt.toNat)
  | .srli rd rs1 shamt => some (asmRegImm "srli" rd rs1 shamt.toNat)
  | .srai rd rs1 shamt => some (asmRegImm "srai" rd rs1 shamt.toNat)
  | .add rd rs1 rs2 => some (asmReg3 "add" rd rs1 rs2)
  | .sub rd rs1 rs2 => some (asmReg3 "sub" rd rs1 rs2)
  | .sll rd rs1 rs2 => some (asmReg3 "sll" rd rs1 rs2)
  | .slt rd rs1 rs2 => some (asmReg3 "slt" rd rs1 rs2)
  | .sltu rd rs1 rs2 => some (asmReg3 "sltu" rd rs1 rs2)
  | .xor rd rs1 rs2 => some (asmReg3 "xor" rd rs1 rs2)
  | .srl rd rs1 rs2 => some (asmReg3 "srl" rd rs1 rs2)
  | .sra rd rs1 rs2 => some (asmReg3 "sra" rd rs1 rs2)
  | .or rd rs1 rs2 => some (asmReg3 "or" rd rs1 rs2)
  | .and rd rs1 rs2 => some (asmReg3 "and" rd rs1 rs2)
  | .fence pred succ => some ("fence" ++ " " ++ fenceLetters pred ++ ", " ++ fenceLetters succ)
  | .fenceI => some "fence.i"
  | .ecall => some "ecall"
  | .ebreak => some "ebreak"
  | .csrrw rd csr rs1 => some (asmCsr "csrrw" rd csr rs1)
  | .csrrs rd csr rs1 => some (asmCsr "csrrs" rd csr rs1)
  | .csrrc rd csr rs1 => some (asmCsr "csrrc" rd csr rs1)
  | .csrrwi rd csr uimm => some (asmCsrImm "csrrwi" rd csr uimm)
  | .csrrsi rd csr uimm => some (asmCsrImm "csrrsi" rd csr uimm)
  | .csrrci rd csr uimm => some (asmCsrImm "csrrci" rd csr uimm)
  | .mul rd rs1 rs2 => some (asmReg3 "mul" rd rs1 rs2)
  | .mulh rd rs1 rs2 => some (asmReg3 "mulh" rd rs1 rs2)
  | .mulhsu rd rs1 rs2 => some (asmReg3 "mulhsu" rd rs1 rs2)
  | .mulhu rd rs1 rs2 => some (asmReg3 "mulhu" rd rs1 rs2)
  | .div rd rs1 rs2 => some (asmReg3 "div" rd rs1 rs2)
  | .divu rd rs1 rs2 => some (asmReg3 "divu" rd rs1 rs2)
  | .rem rd rs1 rs2 => some (asmReg3 "rem" rd rs1 rs2)
  | .remu rd rs1 rs2 => some (asmReg3 "remu" rd rs1 rs2)
  | .lwu _ _ _ => none
  | .ld _ _ _ => none
  | .sd _ _ _ => none
  | .slliRv64 _ _ _ => none
  | .srliRv64 _ _ _ => none
  | .sraiRv64 _ _ _ => none
  | .addiw _ _ _ => none
  | .slliw _ _ _ => none
  | .srliw _ _ _ => none
  | .sraiw _ _ _ => none
  | .addw _ _ _ => none
  | .subw _ _ _ => none
  | .sllw _ _ _ => none
  | .srlw _ _ _ => none
  | .sraw _ _ _ => none
  | .mulw _ _ _ => none
  | .divw _ _ _ => none
  | .divuw _ _ _ => none
  | .remw _ _ _ => none
  | .remuw _ _ _ => none
  | .lrW _ _ _ _ => none
  | .scW _ _ _ _ _ => none
  | .amoswapW _ _ _ _ _ => none
  | .amoaddW _ _ _ _ _ => none
  | .amoxorW _ _ _ _ _ => none
  | .amoandW _ _ _ _ _ => none
  | .amoorW _ _ _ _ _ => none
  | .amominW _ _ _ _ _ => none
  | .amomaxW _ _ _ _ _ => none
  | .amominuW _ _ _ _ _ => none
  | .amomaxuW _ _ _ _ _ => none
  | .lrD _ _ _ _ => none
  | .scD _ _ _ _ _ => none
  | .amoswapD _ _ _ _ _ => none
  | .amoaddD _ _ _ _ _ => none
  | .amoxorD _ _ _ _ _ => none
  | .amoandD _ _ _ _ _ => none
  | .amoorD _ _ _ _ _ => none
  | .amominD _ _ _ _ _ => none
  | .amomaxD _ _ _ _ _ => none
  | .amominuD _ _ _ _ _ => none
  | .amomaxuD _ _ _ _ _ => none
  | .flw _ _ _ => none
  | .fsw _ _ _ => none
  | .fmaddS _ _ _ _ _ => none
  | .fmsubS _ _ _ _ _ => none
  | .fnmsubS _ _ _ _ _ => none
  | .fnmaddS _ _ _ _ _ => none
  | .faddS _ _ _ _ => none
  | .fsubS _ _ _ _ => none
  | .fmulS _ _ _ _ => none
  | .fdivS _ _ _ _ => none
  | .fsqrtS _ _ _ => none
  | .fsgnjS _ _ _ => none
  | .fsgnjnS _ _ _ => none
  | .fsgnjxS _ _ _ => none
  | .fminS _ _ _ => none
  | .fmaxS _ _ _ => none
  | .fcvtWS _ _ _ => none
  | .fcvtWuS _ _ _ => none
  | .fmvXW _ _ => none
  | .feqS _ _ _ => none
  | .fltS _ _ _ => none
  | .fleS _ _ _ => none
  | .fclassS _ _ => none
  | .fcvtSW _ _ _ => none
  | .fcvtSWu _ _ _ => none
  | .fmvWX _ _ => none
  | .fcvtLS _ _ _ => none
  | .fcvtLuS _ _ _ => none
  | .fcvtSL _ _ _ => none
  | .fcvtSLu _ _ _ => none
  | .fld _ _ _ => none
  | .fsd _ _ _ => none
  | .fmaddD _ _ _ _ _ => none
  | .fmsubD _ _ _ _ _ => none
  | .fnmsubD _ _ _ _ _ => none
  | .fnmaddD _ _ _ _ _ => none
  | .faddD _ _ _ _ => none
  | .fsubD _ _ _ _ => none
  | .fmulD _ _ _ _ => none
  | .fdivD _ _ _ _ => none
  | .fsqrtD _ _ _ => none
  | .fsgnjD _ _ _ => none
  | .fsgnjnD _ _ _ => none
  | .fsgnjxD _ _ _ => none
  | .fminD _ _ _ => none
  | .fmaxD _ _ _ => none
  | .fcvtSD _ _ _ => none
  | .fcvtDS _ _ _ => none
  | .feqD _ _ _ => none
  | .fltD _ _ _ => none
  | .fleD _ _ _ => none
  | .fclassD _ _ => none
  | .fcvtWD _ _ _ => none
  | .fcvtWuD _ _ _ => none
  | .fcvtDW _ _ _ => none
  | .fcvtDWu _ _ _ => none
  | .fcvtLD _ _ _ => none
  | .fcvtLuD _ _ _ => none
  | .fmvXD _ _ => none
  | .fcvtDL _ _ _ => none
  | .fcvtDLu _ _ _ => none
  | .fmvDX _ _ => none

end Sys2Proof.Machine
end

