-- ==== Sys2Proof/Machine/Hints.lean ====
section
/-! DEFINITION. The return-address-stack hints of Table 2.1 (41_control_transfer.md R251). They are advice to
implementers with no architectural effect: no instruction's meaning reads this file. -/

namespace Sys2Proof.Machine

/-- What Table 2.1 advises for a return-address stack. -/
inductive RasAction where
  | none
  | pop
  | push
  | pushAndPop
  deriving DecidableEq, Repr

/-- "link is true when the register is either x1 or x5" (R251, R252). -/
def isLink (r : Reg) : Bool := r == 1#5 || r == 5#5

/-- JAL: push only when rd is x1 or x5 (R251). -/
def rasJal (rd : Reg) : RasAction := if isLink rd then .push else .none

/-- JALR, Table 2.1 (R251). -/
def rasJalr (rd rs1 : Reg) : RasAction :=
  if isLink rd then
    if isLink rs1 then
      if rs1 = rd then .push else .pushAndPop
    else .push
  else if isLink rs1 then .pop
  else .none

end Sys2Proof.Machine
end

