-- ==== Sys2Proof/Tests/Slice0.lean ====
section
/-! SUPPORT. Tests: ill-formed terms refused, words of the spec decoded, one step of each instruction against the
vectors of spec/95_test_vectors.md, and a state and operands that meet the hypotheses of each statement. -/

namespace Sys2Proof.Tests

open Sys2Proof Sys2Proof.Machine

set_option Elab.async false

/-! ### Ill-formed terms -/

/-- A branch offset with bit 0 set has no place in the B-type (30_encoding.md R105). -/
theorem test_wf_refuses_odd_branches : (Instr.beq 10#5 11#5 7#13).wf = false ∧ (Instr.bne 10#5 11#5 7#13).wf = false ∧
    (Instr.blt 10#5 11#5 7#13).wf = false ∧ (Instr.bge 10#5 11#5 7#13).wf = false ∧
    (Instr.bltu 10#5 11#5 7#13).wf = false ∧ (Instr.bgeu 10#5 11#5 7#13).wf = false := by decide

/-- A JAL offset with bit 0 set has no place in the J-type (R107). -/
theorem test_wf_refuses_odd_jal : (Instr.jal 1#5 9#21).wf = false := by decide

/-- With shamt[5] = 0 the word is the RV32I shift (47_rv64i_listed.md R364 to R366). -/
theorem test_wf_refuses_short_rv64_shifts : (Instr.slliRv64 10#5 11#5 31#6).wf = false ∧
    (Instr.srliRv64 10#5 11#5 31#6).wf = false ∧ (Instr.sraiRv64 10#5 11#5 31#6).wf = false := by decide

/-! ### Helpers -/

/-- The region all test vectors take as legal (95_test_vectors.md, conventions). -/
def vectorRegion : Region := { base := 0x1000, size := 0x3000, fetch := true, load := true, store := true }

/-- The data and counters of the vectors, with the given registers. -/
def start (regs : List (Reg × Word)) : State :=
  regs.foldl (fun s p => writeX s p.1 p.2)
    { placeBytes State.reset 0x2000#32 [0x80#8, 0x81#8, 0x02#8, 0xF3#8, 0x44#8, 0x55#8, 0x66#8, 0x77#8] with
      cycle := 0x0000000512345678#64, time := 0x00000001000000FF#64, instret := 0x00000002FFFFFFFF#64
      cfg := { Config.atReset with legal := [vectorRegion] } }

/-- One step of a word at pc = 0x00001000. -/
def run (w : Nat) (regs : List (Reg × Word)) : StepResult := step ((start regs).withFetchWord 32 w)

/-- A register and pc after an instruction that completed. -/
def regAndPc (q : Reg) : StepResult → Option (Word × Word)
  | .next t => if t.trap.isNone then some (readX t q, t.pc) else none
  | .fault _ => none
  | .refused _ => none

/-- The eight bytes of data and `stale` after an instruction that completed. -/
def stored : StepResult → Option (List Byte × List Nat)
  | .next t => if t.trap.isNone then some ((List.range 8).map (fun i => Memory.read t.mem (0x2000 + i)), t.stale) else none
  | .fault _ => none
  | .refused _ => none

/-- The trap outcome of a step. -/
def trapOf : StepResult → Option TrapRecord
  | .next t => t.trap
  | .fault _ => none
  | .refused _ => none

/-- Why a step was refused. -/
def refusalOf : StepResult → Option Refusal
  | .next _ => none
  | .fault _ => none
  | .refused r => some r

/-! ### Words and steps -/

/-- Words of 40_integer_computational.md R202 to R212. -/
theorem test_decode_immediate :
    decodeTableWord 32 0xFFFFF537 = some (.lui 10#5 0xFFFFF#20) ∧
    decodeTableWord 32 0xFFFFF517 = some (.auipc 10#5 0xFFFFF#20) ∧
    decodeTableWord 32 0xFFF58513 = some (.addi 10#5 11#5 0xFFF#12) ∧
    decodeTableWord 32 0xFFF5A513 = some (.slti 10#5 11#5 0xFFF#12) ∧
    decodeTableWord 32 0xFFF5B513 = some (.sltiu 10#5 11#5 0xFFF#12) ∧
    decodeTableWord 32 0xFFF5C513 = some (.xori 10#5 11#5 0xFFF#12) ∧
    decodeTableWord 32 0xF005E513 = some (.ori 10#5 11#5 0xF00#12) ∧
    decodeTableWord 32 0xFF05F513 = some (.andi 10#5 11#5 0xFF0#12) ∧
    decodeTableWord 32 0x01F59513 = some (.slli 10#5 11#5 31#5) ∧
    decodeTableWord 32 0x01F5D513 = some (.srli 10#5 11#5 31#5) ∧
    decodeTableWord 32 0x41F5D513 = some (.srai 10#5 11#5 31#5) := by decide

/-- Words of 41_control_transfer.md R241 to R249. -/
theorem test_decode_control :
    decodeTableWord 32 0xFFFFF0EF = some (.jal 1#5 0x1FFFFE#21) ∧
    decodeTableWord 32 0xFFF500E7 = some (.jalr 1#5 10#5 0xFFF#12) ∧
    decodeTableWord 32 0xFEB50FE3 = some (.beq 10#5 11#5 0x1FFE#13) ∧
    decodeTableWord 32 0xFEB51CE3 = some (.bne 10#5 11#5 0x1FF8#13) ∧
    decodeTableWord 32 0x00B54863 = some (.blt 10#5 11#5 0x10#13) ∧
    decodeTableWord 32 0x7EA55FE3 = some (.bge 10#5 10#5 0xFFE#13) ∧
    decodeTableWord 32 0x00B56863 = some (.bltu 10#5 11#5 0x10#13) ∧
    decodeTableWord 32 0x00B57863 = some (.bgeu 10#5 11#5 0x10#13) := by decide

/-- Words of 42_load_store.md R261 to R268. -/
theorem test_decode_load_store :
    decodeTableWord 32 0x00758683 = some (.lb 13#5 11#5 0x7#12) ∧
    decodeTableWord 32 0x00659703 = some (.lh 14#5 11#5 0x6#12) ∧
    decodeTableWord 32 0xFFC5A503 = some (.lw 10#5 11#5 0xFFC#12) ∧
    decodeTableWord 32 0xFFF5C503 = some (.lbu 10#5 11#5 0xFFF#12) ∧
    decodeTableWord 32 0x0035D503 = some (.lhu 10#5 11#5 0x3#12) ∧
    decodeTableWord 32 0xFEA58FA3 = some (.sb 11#5 10#5 0xFFF#12) ∧
    decodeTableWord 32 0x00A59FA3 = some (.sh 11#5 10#5 0x1F#12) ∧
    decodeTableWord 32 0x7EA5AFA3 = some (.sw 11#5 10#5 0x7FF#12) := by decide

/-- Words of 40_integer_computational.md R213 to R222. -/
theorem test_decode_register :
    decodeTableWord 32 0x00C58533 = some (.add 10#5 11#5 12#5) ∧
    decodeTableWord 32 0x40C58533 = some (.sub 10#5 11#5 12#5) ∧
    decodeTableWord 32 0x00C59533 = some (.sll 10#5 11#5 12#5) ∧
    decodeTableWord 32 0x00C5A533 = some (.slt 10#5 11#5 12#5) ∧
    decodeTableWord 32 0x00C5B533 = some (.sltu 10#5 11#5 12#5) ∧
    decodeTableWord 32 0x00C5C533 = some (.xor 10#5 11#5 12#5) ∧
    decodeTableWord 32 0x00C5D533 = some (.srl 10#5 11#5 12#5) ∧
    decodeTableWord 32 0x40C5D533 = some (.sra 10#5 11#5 12#5) ∧
    decodeTableWord 32 0x00C5E533 = some (.or 10#5 11#5 12#5) ∧
    decodeTableWord 32 0x00C5F533 = some (.and 10#5 11#5 12#5) := by decide

/-- Words of 43_fence.md, 44_csr_counters.md and 45_environment.md. -/
theorem test_decode_fence_environment_csr :
    decodeTableWord 32 0x0FF0000F = some (.fence 15#4 15#4) ∧
    decodeTableWord 32 0x0000100F = some .fenceI ∧
    decodeTableWord 32 0x00000073 = some .ecall ∧
    decodeTableWord 32 0x00100073 = some .ebreak ∧
    decodeTableWord 32 0xC0059573 = some (.csrrw 10#5 0xC00#12 11#5) ∧
    decodeTableWord 32 0xFFF02573 = some (.csrrs 10#5 0xFFF#12 0#5) ∧
    decodeTableWord 32 0xC005B573 = some (.csrrc 10#5 0xC00#12 11#5) ∧
    decodeTableWord 32 0xC01FD073 = some (.csrrwi 0#5 0xC01#12 31#5) ∧
    decodeTableWord 32 0xC8106573 = some (.csrrsi 10#5 0xC81#12 0#5) ∧
    decodeTableWord 32 0xC02FF573 = some (.csrrci 10#5 0xC02#12 31#5) := by decide

/-- Words of 46_m_extension.md R331 to R338. -/
theorem test_decode_m :
    decodeTableWord 32 0x02C58533 = some (.mul 10#5 11#5 12#5) ∧
    decodeTableWord 32 0x02C59533 = some (.mulh 10#5 11#5 12#5) ∧
    decodeTableWord 32 0x02C5A533 = some (.mulhsu 10#5 11#5 12#5) ∧
    decodeTableWord 32 0x02C5B533 = some (.mulhu 10#5 11#5 12#5) ∧
    decodeTableWord 32 0x02C5C533 = some (.div 10#5 11#5 12#5) ∧
    decodeTableWord 32 0x02C5D533 = some (.divu 10#5 11#5 12#5) ∧
    decodeTableWord 32 0x02C5E533 = some (.rem 10#5 11#5 12#5) ∧
    decodeTableWord 32 0x02C5F533 = some (.remu 10#5 11#5 12#5) := by decide

/-- Words of 47_rv64i_listed.md. -/
theorem test_decode_rv64i :
    decodeTableWord 32 0x0005E503 = some (.lwu 10#5 11#5 0x0#12) ∧
    decodeTableWord 32 0x0005B503 = some (.ld 10#5 11#5 0x0#12) ∧
    decodeTableWord 32 0x00C5B023 = some (.sd 11#5 12#5 0x0#12) ∧
    decodeTableWord 32 0x02159513 = some (.slliRv64 10#5 11#5 33#6) ∧
    decodeTableWord 32 0x0215D513 = some (.srliRv64 10#5 11#5 33#6) ∧
    decodeTableWord 32 0x4215D513 = some (.sraiRv64 10#5 11#5 33#6) ∧
    decodeTableWord 32 0x0005851B = some (.addiw 10#5 11#5 0x0#12) ∧
    decodeTableWord 32 0x0015951B = some (.slliw 10#5 11#5 1#5) ∧
    decodeTableWord 32 0x0015D51B = some (.srliw 10#5 11#5 1#5) ∧
    decodeTableWord 32 0x4015D51B = some (.sraiw 10#5 11#5 1#5) ∧
    decodeTableWord 32 0x00C5853B = some (.addw 10#5 11#5 12#5) ∧
    decodeTableWord 32 0x40C5853B = some (.subw 10#5 11#5 12#5) ∧
    decodeTableWord 32 0x00C5953B = some (.sllw 10#5 11#5 12#5) ∧
    decodeTableWord 32 0x00C5D53B = some (.srlw 10#5 11#5 12#5) ∧
    decodeTableWord 32 0x40C5D53B = some (.sraw 10#5 11#5 12#5) := by decide

/-- Words of 46_m_extension.md R341 to R345. -/
theorem test_decode_rv64m :
    decodeTableWord 32 0x02C5853B = some (.mulw 10#5 11#5 12#5) ∧
    decodeTableWord 32 0x02C5C53B = some (.divw 10#5 11#5 12#5) ∧
    decodeTableWord 32 0x02C5D53B = some (.divuw 10#5 11#5 12#5) ∧
    decodeTableWord 32 0x02C5E53B = some (.remw 10#5 11#5 12#5) ∧
    decodeTableWord 32 0x02C5F53B = some (.remuw 10#5 11#5 12#5) := by decide

/-- Words of 48_a_listed.md. -/
theorem test_decode_rv32a :
    decodeTableWord 32 0x1005A52F = some (.lrW 10#5 11#5 0#1 0#1) ∧
    decodeTableWord 32 0x18C5A52F = some (.scW 10#5 11#5 12#5 0#1 0#1) ∧
    decodeTableWord 32 0x08C5A52F = some (.amoswapW 10#5 11#5 12#5 0#1 0#1) ∧
    decodeTableWord 32 0x00C5A52F = some (.amoaddW 10#5 11#5 12#5 0#1 0#1) ∧
    decodeTableWord 32 0x20C5A52F = some (.amoxorW 10#5 11#5 12#5 0#1 0#1) ∧
    decodeTableWord 32 0x60C5A52F = some (.amoandW 10#5 11#5 12#5 0#1 0#1) ∧
    decodeTableWord 32 0x40C5A52F = some (.amoorW 10#5 11#5 12#5 0#1 0#1) ∧
    decodeTableWord 32 0x80C5A52F = some (.amominW 10#5 11#5 12#5 0#1 0#1) ∧
    decodeTableWord 32 0xA0C5A52F = some (.amomaxW 10#5 11#5 12#5 0#1 0#1) ∧
    decodeTableWord 32 0xC0C5A52F = some (.amominuW 10#5 11#5 12#5 0#1 0#1) ∧
    decodeTableWord 32 0xE0C5A52F = some (.amomaxuW 10#5 11#5 12#5 0#1 0#1) := by decide

/-- Words of 48_a_listed.md. -/
theorem test_decode_rv64a :
    decodeTableWord 32 0x1005B52F = some (.lrD 10#5 11#5 0#1 0#1) ∧
    decodeTableWord 32 0x18C5B52F = some (.scD 10#5 11#5 12#5 0#1 0#1) ∧
    decodeTableWord 32 0x08C5B52F = some (.amoswapD 10#5 11#5 12#5 0#1 0#1) ∧
    decodeTableWord 32 0x00C5B52F = some (.amoaddD 10#5 11#5 12#5 0#1 0#1) ∧
    decodeTableWord 32 0x20C5B52F = some (.amoxorD 10#5 11#5 12#5 0#1 0#1) ∧
    decodeTableWord 32 0x60C5B52F = some (.amoandD 10#5 11#5 12#5 0#1 0#1) ∧
    decodeTableWord 32 0x40C5B52F = some (.amoorD 10#5 11#5 12#5 0#1 0#1) ∧
    decodeTableWord 32 0x80C5B52F = some (.amominD 10#5 11#5 12#5 0#1 0#1) ∧
    decodeTableWord 32 0xA0C5B52F = some (.amomaxD 10#5 11#5 12#5 0#1 0#1) ∧
    decodeTableWord 32 0xC0C5B52F = some (.amominuD 10#5 11#5 12#5 0#1 0#1) ∧
    decodeTableWord 32 0xE0C5B52F = some (.amomaxuD 10#5 11#5 12#5 0#1 0#1) := by decide

/-- Words of 49_fd_listed.md. -/
theorem test_decode_rv32f :
    decodeTableWord 32 0x0005A507 = some (.flw 10#5 11#5 0x0#12) ∧
    decodeTableWord 32 0x00C5A027 = some (.fsw 11#5 12#5 0x0#12) ∧
    decodeTableWord 32 0x68C58543 = some (.fmaddS 10#5 11#5 12#5 13#5 0#3) ∧
    decodeTableWord 32 0x68C58547 = some (.fmsubS 10#5 11#5 12#5 13#5 0#3) ∧
    decodeTableWord 32 0xF0F0EDCB = some (.fnmsubS 27#5 1#5 15#5 30#5 6#3) ∧
    decodeTableWord 32 0x68C5854F = some (.fnmaddS 10#5 11#5 12#5 13#5 0#3) ∧
    decodeTableWord 32 0x00C58553 = some (.faddS 10#5 11#5 12#5 0#3) ∧
    decodeTableWord 32 0x08C58553 = some (.fsubS 10#5 11#5 12#5 0#3) ∧
    decodeTableWord 32 0x10C58553 = some (.fmulS 10#5 11#5 12#5 0#3) ∧
    decodeTableWord 32 0x18C58553 = some (.fdivS 10#5 11#5 12#5 0#3) ∧
    decodeTableWord 32 0x58058553 = some (.fsqrtS 10#5 11#5 0#3) ∧
    decodeTableWord 32 0x20C58553 = some (.fsgnjS 10#5 11#5 12#5) ∧
    decodeTableWord 32 0x20C59553 = some (.fsgnjnS 10#5 11#5 12#5) ∧
    decodeTableWord 32 0x20C5A553 = some (.fsgnjxS 10#5 11#5 12#5) ∧
    decodeTableWord 32 0x28C58553 = some (.fminS 10#5 11#5 12#5) ∧
    decodeTableWord 32 0x28C59553 = some (.fmaxS 10#5 11#5 12#5) ∧
    decodeTableWord 32 0xC0058553 = some (.fcvtWS 10#5 11#5 0#3) ∧
    decodeTableWord 32 0xC0158553 = some (.fcvtWuS 10#5 11#5 0#3) ∧
    decodeTableWord 32 0xE0058553 = some (.fmvXW 10#5 11#5) ∧
    decodeTableWord 32 0xA0C5A553 = some (.feqS 10#5 11#5 12#5) ∧
    decodeTableWord 32 0xA0C59553 = some (.fltS 10#5 11#5 12#5) ∧
    decodeTableWord 32 0xA0C58553 = some (.fleS 10#5 11#5 12#5) ∧
    decodeTableWord 32 0xE0059553 = some (.fclassS 10#5 11#5) ∧
    decodeTableWord 32 0xD0058553 = some (.fcvtSW 10#5 11#5 0#3) ∧
    decodeTableWord 32 0xD0158553 = some (.fcvtSWu 10#5 11#5 0#3) ∧
    decodeTableWord 32 0xF0058553 = some (.fmvWX 10#5 11#5) := by decide

/-- Words of 49_fd_listed.md. -/
theorem test_decode_rv64f :
    decodeTableWord 32 0xC0258553 = some (.fcvtLS 10#5 11#5 0#3) ∧
    decodeTableWord 32 0xC0358553 = some (.fcvtLuS 10#5 11#5 0#3) ∧
    decodeTableWord 32 0xD0258553 = some (.fcvtSL 10#5 11#5 0#3) ∧
    decodeTableWord 32 0xD0358553 = some (.fcvtSLu 10#5 11#5 0#3) := by decide

/-- Words of 49_fd_listed.md. -/
theorem test_decode_rv32d :
    decodeTableWord 32 0x0005B507 = some (.fld 10#5 11#5 0x0#12) ∧
    decodeTableWord 32 0x00C5B027 = some (.fsd 11#5 12#5 0x0#12) ∧
    decodeTableWord 32 0x6AC58543 = some (.fmaddD 10#5 11#5 12#5 13#5 0#3) ∧
    decodeTableWord 32 0x6AC58547 = some (.fmsubD 10#5 11#5 12#5 13#5 0#3) ∧
    decodeTableWord 32 0x6AC5854B = some (.fnmsubD 10#5 11#5 12#5 13#5 0#3) ∧
    decodeTableWord 32 0x6AC5854F = some (.fnmaddD 10#5 11#5 12#5 13#5 0#3) ∧
    decodeTableWord 32 0x02C58553 = some (.faddD 10#5 11#5 12#5 0#3) ∧
    decodeTableWord 32 0x0AC58553 = some (.fsubD 10#5 11#5 12#5 0#3) ∧
    decodeTableWord 32 0x12C58553 = some (.fmulD 10#5 11#5 12#5 0#3) ∧
    decodeTableWord 32 0x1AC58553 = some (.fdivD 10#5 11#5 12#5 0#3) ∧
    decodeTableWord 32 0x5A058553 = some (.fsqrtD 10#5 11#5 0#3) ∧
    decodeTableWord 32 0x22C58553 = some (.fsgnjD 10#5 11#5 12#5) ∧
    decodeTableWord 32 0x22C59553 = some (.fsgnjnD 10#5 11#5 12#5) ∧
    decodeTableWord 32 0x22C5A553 = some (.fsgnjxD 10#5 11#5 12#5) ∧
    decodeTableWord 32 0x2AC58553 = some (.fminD 10#5 11#5 12#5) ∧
    decodeTableWord 32 0x2AC59553 = some (.fmaxD 10#5 11#5 12#5) ∧
    decodeTableWord 32 0x40158553 = some (.fcvtSD 10#5 11#5 0#3) ∧
    decodeTableWord 32 0x42058553 = some (.fcvtDS 10#5 11#5 0#3) ∧
    decodeTableWord 32 0xA2C5A553 = some (.feqD 10#5 11#5 12#5) ∧
    decodeTableWord 32 0xA2C59553 = some (.fltD 10#5 11#5 12#5) ∧
    decodeTableWord 32 0xA2C58553 = some (.fleD 10#5 11#5 12#5) ∧
    decodeTableWord 32 0xE2059553 = some (.fclassD 10#5 11#5) ∧
    decodeTableWord 32 0xC2058553 = some (.fcvtWD 10#5 11#5 0#3) ∧
    decodeTableWord 32 0xC2158553 = some (.fcvtWuD 10#5 11#5 0#3) ∧
    decodeTableWord 32 0xD2058553 = some (.fcvtDW 10#5 11#5 0#3) ∧
    decodeTableWord 32 0xD2158553 = some (.fcvtDWu 10#5 11#5 0#3) := by decide

/-- Words of 49_fd_listed.md. -/
theorem test_decode_rv64d :
    decodeTableWord 32 0xC2258553 = some (.fcvtLD 10#5 11#5 0#3) ∧
    decodeTableWord 32 0xC2358553 = some (.fcvtLuD 10#5 11#5 0#3) ∧
    decodeTableWord 32 0xE2058553 = some (.fmvXD 10#5 11#5) ∧
    decodeTableWord 32 0xD2258553 = some (.fcvtDL 10#5 11#5 0#3) ∧
    decodeTableWord 32 0xD2358553 = some (.fcvtDLu 10#5 11#5 0#3) ∧
    decodeTableWord 32 0xF2058553 = some (.fmvDX 10#5 11#5) := by decide

/-- LUI: vectors of 95_test_vectors.md 2.1. -/
theorem test_step_lui :
    regAndPc 10#5 (run 0xFFFFF537 []) = some (0xFFFFF000#32, 0x00001004#32) ∧
    regAndPc 10#5 (run 0x80000537 []) = some (0x80000000#32, 0x00001004#32) := by decide

/-- AUIPC: vectors of 95_test_vectors.md 2.1. -/
theorem test_step_auipc :
    regAndPc 10#5 (run 0x80000517 []) = some (0x80001000#32, 0x00001004#32) ∧
    regAndPc 10#5 (run 0x00001517 []) = some (0x00002000#32, 0x00001004#32) := by decide

/-- JAL: vectors of 95_test_vectors.md 2.3. -/
theorem test_step_jal :
    regAndPc 1#5 (run 0x008000EF []) = some (0x00001004#32, 0x00001008#32) ∧
    trapOf (run 0x7FE0006F []) = some ⟨.instructionAddressMisaligned, 0x00001000#32, some 0x000017FE#32⟩ := by decide

/-- JALR: vectors of 95_test_vectors.md 2.3. -/
theorem test_step_jalr :
    regAndPc 1#5 (run 0xFFF500E7 [(10#5, 0x00002001#32)]) = some (0x00001004#32, 0x00002000#32) ∧
    trapOf (run 0x00050567 [(10#5, 0x00002002#32)]) =
      some ⟨.instructionAddressMisaligned, 0x00001000#32, some 0x00002002#32⟩ := by decide

/-- BEQ: vectors of 95_test_vectors.md 2.3. -/
theorem test_step_beq :
    regAndPc 0#5 (run 0x00B50863 [(10#5, 0x00000005#32), (11#5, 0x00000005#32)]) = some (0#32, 0x00001010#32) ∧
    regAndPc 0#5 (run 0x00B50863 [(10#5, 0x00000005#32), (11#5, 0x00000006#32)]) =
      some (0#32, 0x00001004#32) := by decide

/-- BNE: vectors of 95_test_vectors.md 2.3. -/
theorem test_step_bne :
    regAndPc 0#5 (run 0x00B51863 [(10#5, 0x00000005#32), (11#5, 0x00000006#32)]) = some (0#32, 0x00001010#32) ∧
    regAndPc 0#5 (run 0x00B51863 [(10#5, 0x00000005#32), (11#5, 0x00000005#32)]) =
      some (0#32, 0x00001004#32) := by decide

/-- BLT: vectors of 95_test_vectors.md 2.3. -/
theorem test_step_blt :
    regAndPc 0#5 (run 0x00B54863 [(10#5, 0xFFFFFFFF#32), (11#5, 0x00000000#32)]) = some (0#32, 0x00001010#32) ∧
    regAndPc 0#5 (run 0x00B54863 [(10#5, 0x00000000#32), (11#5, 0xFFFFFFFF#32)]) =
      some (0#32, 0x00001004#32) := by decide

/-- BGE: vectors of 95_test_vectors.md 2.3. -/
theorem test_step_bge :
    regAndPc 0#5 (run 0x00B55863 [(10#5, 0x00000000#32), (11#5, 0xFFFFFFFF#32)]) = some (0#32, 0x00001010#32) ∧
    regAndPc 0#5 (run 0x00B55863 [(10#5, 0x80000000#32), (11#5, 0x7FFFFFFF#32)]) =
      some (0#32, 0x00001004#32) := by decide

/-- BLTU: vectors of 95_test_vectors.md 2.3. -/
theorem test_step_bltu :
    regAndPc 0#5 (run 0x00B56863 [(10#5, 0x00000000#32), (11#5, 0xFFFFFFFF#32)]) = some (0#32, 0x00001010#32) ∧
    regAndPc 0#5 (run 0x00B56863 [(10#5, 0xFFFFFFFF#32), (11#5, 0x00000000#32)]) =
      some (0#32, 0x00001004#32) := by decide

/-- BGEU: vectors of 95_test_vectors.md 2.3. -/
theorem test_step_bgeu :
    regAndPc 0#5 (run 0x00B57863 [(10#5, 0xFFFFFFFF#32), (11#5, 0x00000000#32)]) = some (0#32, 0x00001010#32) ∧
    regAndPc 0#5 (run 0x00B57863 [(10#5, 0x00000000#32), (11#5, 0x00000001#32)]) =
      some (0#32, 0x00001004#32) := by decide

/-- LB: vectors of 95_test_vectors.md 2.4. -/
theorem test_step_lb :
    regAndPc 10#5 (run 0x00058503 [(11#5, 0x00002000#32)]) = some (0xFFFFFF80#32, 0x00001004#32) ∧
    trapOf (run 0x00058003 [(11#5, 0x00000FFF#32)]) =
      some ⟨.loadAccessFault, 0x00001000#32, some 0x00000FFF#32⟩ := by decide

/-- LH: vectors of 95_test_vectors.md 2.4. -/
theorem test_step_lh :
    regAndPc 10#5 (run 0x00059503 [(11#5, 0x00002000#32)]) = some (0xFFFF8180#32, 0x00001004#32) ∧
    regAndPc 10#5 (run 0x00259503 [(11#5, 0x00002000#32)]) = some (0xFFFFF302#32, 0x00001004#32) := by decide

/-- LW: vectors of 95_test_vectors.md 2.4. -/
theorem test_step_lw :
    regAndPc 10#5 (run 0x0015A503 [(11#5, 0x00002000#32)]) = some (0x44F30281#32, 0x00001004#32) ∧
    trapOf (run 0x0005A503 [(11#5, 0xFFFFFFFE#32)]) =
      some ⟨.loadAccessFault, 0x00001000#32, some 0xFFFFFFFE#32⟩ := by decide

/-- LBU: vectors of 95_test_vectors.md 2.4. -/
theorem test_step_lbu :
    regAndPc 10#5 (run 0x0035C503 [(11#5, 0x00002000#32)]) = some (0x000000F3#32, 0x00001004#32) ∧
    trapOf (run 0xFFF5C503 [(11#5, 0x00001000#32)]) =
      some ⟨.loadAccessFault, 0x00001000#32, some 0x00000FFF#32⟩ := by decide

/-- LHU: vectors of 95_test_vectors.md 2.4. -/
theorem test_step_lhu :
    regAndPc 10#5 (run 0x0025D503 [(11#5, 0x00002000#32)]) = some (0x0000F302#32, 0x00001004#32) ∧
    regAndPc 10#5 (run 0x0035D503 [(11#5, 0x00002000#32)]) = some (0x000044F3#32, 0x00001004#32) := by decide

/-- SB: vectors of 95_test_vectors.md 2.4. -/
theorem test_step_sb :
    stored (run 0x00A58023 [(10#5, 0xAABBCCDD#32), (11#5, 0x00002000#32)]) =
      some ([0xDD#8, 0x81#8, 0x02#8, 0xF3#8, 0x44#8, 0x55#8, 0x66#8, 0x77#8], [0x00002000]) ∧
    trapOf (run 0xFEA58FA3 [(10#5, 0xAABBCCDD#32), (11#5, 0x00001000#32)]) =
      some ⟨.storeAccessFault, 0x00001000#32, some 0x00000FFF#32⟩ := by decide

/-- SH: vectors of 95_test_vectors.md 2.4. -/
theorem test_step_sh :
    stored (run 0x00A59023 [(10#5, 0xAABBCCDD#32), (11#5, 0x00002000#32)]) =
      some ([0xDD#8, 0xCC#8, 0x02#8, 0xF3#8, 0x44#8, 0x55#8, 0x66#8, 0x77#8], [0x00002000, 0x00002001]) ∧
    stored (run 0x00A59323 [(10#5, 0xAABBCCDD#32), (11#5, 0x00002000#32)]) =
      some ([0x80#8, 0x81#8, 0x02#8, 0xF3#8, 0x44#8, 0x55#8, 0xDD#8, 0xCC#8], [0x00002006, 0x00002007]) := by decide

/-- SW: vectors of 95_test_vectors.md 2.4. -/
theorem test_step_sw :
    stored (run 0xFEA5AE23 [(10#5, 0xAABBCCDD#32), (11#5, 0x00002008#32)]) =
      some ([0x80#8, 0x81#8, 0x02#8, 0xF3#8, 0xDD#8, 0xCC#8, 0xBB#8, 0xAA#8], [0x00002004, 0x00002005, 0x00002006, 0x00002007]) ∧
    trapOf (run 0x00A5A023 [(10#5, 0xAABBCCDD#32), (11#5, 0x00003FFE#32)]) =
      some ⟨.storeAccessFault, 0x00001000#32, some 0x00003FFE#32⟩ := by decide

/-- ADDI: vectors of 95_test_vectors.md 2.1. -/
theorem test_step_addi :
    regAndPc 10#5 (run 0x7FF58513 [(11#5, 0xFFFFF801#32)]) = some (0x00000000#32, 0x00001004#32) ∧
    regAndPc 10#5 (run 0x00158513 [(11#5, 0x7FFFFFFF#32)]) = some (0x80000000#32, 0x00001004#32) := by decide

/-- SLTI: vectors of 95_test_vectors.md 2.1. -/
theorem test_step_slti :
    regAndPc 10#5 (run 0xFFF5A513 [(11#5, 0xFFFFFFFE#32)]) = some (0x00000001#32, 0x00001004#32) ∧
    regAndPc 10#5 (run 0x0005A513 [(11#5, 0x80000000#32)]) = some (0x00000001#32, 0x00001004#32) := by decide

/-- SLTIU: vectors of 95_test_vectors.md 2.1. -/
theorem test_step_sltiu :
    regAndPc 10#5 (run 0xFFF5B513 [(11#5, 0xFFFFFFFE#32)]) = some (0x00000001#32, 0x00001004#32) ∧
    regAndPc 10#5 (run 0x8005B513 [(11#5, 0xFFFFF7FF#32)]) = some (0x00000001#32, 0x00001004#32) := by decide

/-- XORI: vectors of 95_test_vectors.md 2.1. -/
theorem test_step_xori :
    regAndPc 10#5 (run 0x7FF5C513 [(11#5, 0xFFFF0000#32)]) = some (0xFFFF07FF#32, 0x00001004#32) ∧
    regAndPc 10#5 (run 0x8005C513 [(11#5, 0x0000FFFF#32)]) = some (0xFFFF07FF#32, 0x00001004#32) := by decide

/-- ORI: vectors of 95_test_vectors.md 2.1. -/
theorem test_step_ori :
    regAndPc 10#5 (run 0x0F05E513 [(11#5, 0x12340000#32)]) = some (0x123400F0#32, 0x00001004#32) ∧
    regAndPc 10#5 (run 0x8005E513 [(11#5, 0x00000001#32)]) = some (0xFFFFF801#32, 0x00001004#32) := by decide

/-- ANDI: vectors of 95_test_vectors.md 2.1. -/
theorem test_step_andi :
    regAndPc 10#5 (run 0x0FF5F513 [(11#5, 0x12345678#32)]) = some (0x00000078#32, 0x00001004#32) ∧
    regAndPc 10#5 (run 0x8005F513 [(11#5, 0xFFFFFFFF#32)]) = some (0xFFFFF800#32, 0x00001004#32) := by decide

/-- SLLI: vectors of 95_test_vectors.md 2.1. -/
theorem test_step_slli :
    regAndPc 10#5 (run 0x00059513 [(11#5, 0x80000001#32)]) = some (0x80000001#32, 0x00001004#32) ∧
    regAndPc 10#5 (run 0x00159513 [(11#5, 0x80000001#32)]) = some (0x00000002#32, 0x00001004#32) := by decide

/-- SRLI: vectors of 95_test_vectors.md 2.1. -/
theorem test_step_srli :
    regAndPc 10#5 (run 0x0005D513 [(11#5, 0x80000001#32)]) = some (0x80000001#32, 0x00001004#32) ∧
    regAndPc 10#5 (run 0x0015D513 [(11#5, 0x80000001#32)]) = some (0x40000000#32, 0x00001004#32) := by decide

/-- SRAI: vectors of 95_test_vectors.md 2.1. -/
theorem test_step_srai :
    regAndPc 10#5 (run 0x4005D513 [(11#5, 0x80000001#32)]) = some (0x80000001#32, 0x00001004#32) ∧
    regAndPc 10#5 (run 0x4045D513 [(11#5, 0xF0000010#32)]) = some (0xFF000001#32, 0x00001004#32) := by decide

/-- ADD: vectors of 95_test_vectors.md 2.1. -/
theorem test_step_add :
    regAndPc 10#5 (run 0x00C58533 [(11#5, 0x7FFFFFFF#32), (12#5, 0x00000001#32)]) =
      some (0x80000000#32, 0x00001004#32) ∧
    regAndPc 10#5 (run 0x00C58533 [(11#5, 0xFFFFFFFF#32), (12#5, 0xFFFFFFFF#32)]) =
      some (0xFFFFFFFE#32, 0x00001004#32) := by decide

/-- SUB: vectors of 95_test_vectors.md 2.1. -/
theorem test_step_sub :
    regAndPc 10#5 (run 0x40C58533 [(11#5, 0x80000000#32), (12#5, 0x00000001#32)]) =
      some (0x7FFFFFFF#32, 0x00001004#32) ∧
    regAndPc 10#5 (run 0x40B58533 [(11#5, 0x12345678#32)]) = some (0x00000000#32, 0x00001004#32) := by decide

/-- SLL: vectors of 95_test_vectors.md 2.1. -/
theorem test_step_sll :
    regAndPc 10#5 (run 0x00C59533 [(11#5, 0x00000001#32), (12#5, 0x0000001F#32)]) =
      some (0x80000000#32, 0x00001004#32) ∧
    regAndPc 10#5 (run 0x00C59533 [(11#5, 0x00000001#32), (12#5, 0xFFFFFFFF#32)]) =
      some (0x80000000#32, 0x00001004#32) := by decide

/-- SLT: vectors of 95_test_vectors.md 2.1. -/
theorem test_step_slt :
    regAndPc 10#5 (run 0x00C5A533 [(11#5, 0x80000000#32), (12#5, 0x7FFFFFFF#32)]) =
      some (0x00000001#32, 0x00001004#32) ∧
    regAndPc 10#5 (run 0x00C5A533 [(11#5, 0x7FFFFFFF#32), (12#5, 0x80000000#32)]) =
      some (0x00000000#32, 0x00001004#32) := by decide

/-- SLTU: vectors of 95_test_vectors.md 2.1. -/
theorem test_step_sltu :
    regAndPc 10#5 (run 0x00C5B533 [(11#5, 0x7FFFFFFF#32), (12#5, 0x80000000#32)]) =
      some (0x00000001#32, 0x00001004#32) ∧
    regAndPc 10#5 (run 0x00C5B533 [(11#5, 0x80000000#32), (12#5, 0x7FFFFFFF#32)]) =
      some (0x00000000#32, 0x00001004#32) := by decide

/-- XOR: vectors of 95_test_vectors.md 2.1. -/
theorem test_step_xor :
    regAndPc 10#5 (run 0x00C5C533 [(11#5, 0xFF00FF00#32), (12#5, 0x0FF00FF0#32)]) =
      some (0xF0F0F0F0#32, 0x00001004#32) ∧
    regAndPc 10#5 (run 0x00B5C533 [(11#5, 0xCAFEBABE#32)]) = some (0x00000000#32, 0x00001004#32) := by decide

/-- SRL: vectors of 95_test_vectors.md 2.1. -/
theorem test_step_srl :
    regAndPc 10#5 (run 0x00C5D533 [(11#5, 0x80000000#32), (12#5, 0x00000021#32)]) =
      some (0x40000000#32, 0x00001004#32) ∧
    regAndPc 10#5 (run 0x00C5D533 [(11#5, 0x80000000#32), (12#5, 0x0000001F#32)]) =
      some (0x00000001#32, 0x00001004#32) := by decide

/-- SRA: vectors of 95_test_vectors.md 2.1. -/
theorem test_step_sra :
    regAndPc 10#5 (run 0x40C5D533 [(11#5, 0x80000000#32), (12#5, 0x00000024#32)]) =
      some (0xF8000000#32, 0x00001004#32) ∧
    regAndPc 10#5 (run 0x40C5D533 [(11#5, 0x80000000#32), (12#5, 0x0000001F#32)]) =
      some (0xFFFFFFFF#32, 0x00001004#32) := by decide

/-- OR: vectors of 95_test_vectors.md 2.1. -/
theorem test_step_or :
    regAndPc 10#5 (run 0x00C5E533 [(11#5, 0xFF00FF00#32), (12#5, 0x0FF00FF0#32)]) =
      some (0xFFF0FFF0#32, 0x00001004#32) := by decide

/-- AND: vectors of 95_test_vectors.md 2.1. -/
theorem test_step_and :
    regAndPc 10#5 (run 0x00C5F533 [(11#5, 0xFF00FF00#32), (12#5, 0x0FF00FF0#32)]) =
      some (0x0F000F00#32, 0x00001004#32) := by decide

/-- CSRRW: vectors of 95_test_vectors.md 2.6. -/
theorem test_step_csrrw :
    trapOf (run 0xC0001073 []) = some ⟨.illegalInstruction, 0x00001000#32, some 0xC0001073#32⟩ ∧
    trapOf (run 0x00159573 [(11#5, 0x0000FFFF#32)]) =
      some ⟨.illegalInstruction, 0x00001000#32, some 0x00159573#32⟩ := by decide

/-- CSRRS: vectors of 95_test_vectors.md 1.11. -/
theorem test_step_csrrs :
    regAndPc 10#5 (run 0xC0002573 []) = some (0x12345678#32, 0x00001004#32) ∧
    regAndPc 10#5 (run 0xC8002573 []) = some (0x00000005#32, 0x00001004#32) := by decide

/-- CSRRC: vectors of 95_test_vectors.md 2.6. -/
theorem test_step_csrrc :
    regAndPc 10#5 (run 0xC0103573 []) = some (0x000000FF#32, 0x00001004#32) ∧
    trapOf (run 0xC005B573 [(11#5, 0x0000FFFF#32)]) =
      some ⟨.illegalInstruction, 0x00001000#32, some 0xC005B573#32⟩ := by decide

/-- CSRRWI: vectors of 95_test_vectors.md 2.6. -/
theorem test_step_csrrwi :
    trapOf (run 0xC0005573 []) = some ⟨.illegalInstruction, 0x00001000#32, some 0xC0005573#32⟩ ∧
    trapOf (run 0xC01FD073 []) = some ⟨.illegalInstruction, 0x00001000#32, some 0xC01FD073#32⟩ := by decide

/-- CSRRSI: vectors of 95_test_vectors.md 2.6. -/
theorem test_step_csrrsi :
    regAndPc 10#5 (run 0xC8106573 []) = some (0x00000001#32, 0x00001004#32) ∧
    trapOf (run 0xC000E573 []) = some ⟨.illegalInstruction, 0x00001000#32, some 0xC000E573#32⟩ := by decide

/-- CSRRCI: vectors of 95_test_vectors.md 2.6. -/
theorem test_step_csrrci :
    regAndPc 10#5 (run 0xC0207573 []) = some (0xFFFFFFFF#32, 0x00001004#32) ∧
    trapOf (run 0xC02FF573 []) = some ⟨.illegalInstruction, 0x00001000#32, some 0xC02FF573#32⟩ := by decide

/-- MUL: vectors of 95_test_vectors.md 2.8. -/
theorem test_step_mul :
    regAndPc 10#5 (run 0x02C58533 [(11#5, 0x12345678#32), (12#5, 0x9ABCDEF0#32)]) =
      some (0x242D2080#32, 0x00001004#32) ∧
    regAndPc 10#5 (run 0x02C58533 [(11#5, 0x80000000#32), (12#5, 0xFFFFFFFF#32)]) =
      some (0x80000000#32, 0x00001004#32) := by decide

/-- MULH: vectors of 95_test_vectors.md 2.8. -/
theorem test_step_mulh :
    regAndPc 10#5 (run 0x02C59533 [(11#5, 0x12345678#32), (12#5, 0x9ABCDEF0#32)]) =
      some (0xF8CC93D6#32, 0x00001004#32) ∧
    regAndPc 10#5 (run 0x02C59533 [(11#5, 0x80000000#32), (12#5, 0x80000000#32)]) =
      some (0x40000000#32, 0x00001004#32) := by decide

/-- MULHSU: vectors of 95_test_vectors.md 2.8. -/
theorem test_step_mulhsu :
    regAndPc 10#5 (run 0x02C5A533 [(11#5, 0x12345678#32), (12#5, 0x9ABCDEF0#32)]) =
      some (0x0B00EA4E#32, 0x00001004#32) ∧
    regAndPc 10#5 (run 0x02C5A533 [(11#5, 0x80000000#32), (12#5, 0xFFFFFFFF#32)]) =
      some (0x80000000#32, 0x00001004#32) := by decide

/-- MULHU: vectors of 95_test_vectors.md 2.8. -/
theorem test_step_mulhu :
    regAndPc 10#5 (run 0x02C5B533 [(11#5, 0x12345678#32), (12#5, 0x9ABCDEF0#32)]) =
      some (0x0B00EA4E#32, 0x00001004#32) ∧
    regAndPc 10#5 (run 0x02C5B533 [(11#5, 0x80000000#32), (12#5, 0xFFFFFFFF#32)]) =
      some (0x7FFFFFFF#32, 0x00001004#32) := by decide

/-- DIV: vectors of 95_test_vectors.md 2.8. -/
theorem test_step_div :
    regAndPc 10#5 (run 0x02C5C533 [(11#5, 0xFFFFFFF9#32), (12#5, 0xFFFFFFFE#32)]) =
      some (0x00000003#32, 0x00001004#32) ∧
    regAndPc 10#5 (run 0x02C5C533 [(11#5, 0x80000000#32), (12#5, 0xFFFFFFFF#32)]) =
      some (0x80000000#32, 0x00001004#32) := by decide

/-- DIVU: vectors of 95_test_vectors.md 2.8. -/
theorem test_step_divu :
    regAndPc 10#5 (run 0x02C5D533 [(11#5, 0xFFFFFFF9#32), (12#5, 0x00000002#32)]) =
      some (0x7FFFFFFC#32, 0x00001004#32) ∧
    regAndPc 10#5 (run 0x02C5D533 [(11#5, 0xFFFFFFF9#32), (12#5, 0xFFFFFFFE#32)]) =
      some (0x00000000#32, 0x00001004#32) := by decide

/-- REM: vectors of 95_test_vectors.md 2.8. -/
theorem test_step_rem :
    regAndPc 10#5 (run 0x02C5E533 [(11#5, 0x00000007#32), (12#5, 0xFFFFFFFE#32)]) =
      some (0x00000001#32, 0x00001004#32) ∧
    regAndPc 10#5 (run 0x02C5E533 [(11#5, 0xFFFFFFF9#32), (12#5, 0xFFFFFFFE#32)]) =
      some (0xFFFFFFFF#32, 0x00001004#32) := by decide

/-- REMU: vectors of 95_test_vectors.md 2.8. -/
theorem test_step_remu :
    regAndPc 10#5 (run 0x02C5F533 [(11#5, 0xFFFFFFF9#32), (12#5, 0xFFFFFFFE#32)]) =
      some (0xFFFFFFF9#32, 0x00001004#32) ∧
    regAndPc 10#5 (run 0x02C5F533 [(11#5, 0x80000000#32), (12#5, 0xFFFFFFFF#32)]) =
      some (0x80000000#32, 0x00001004#32) := by decide

/-- FENCE leaves `stale`, FENCE.I empties it: 95_test_vectors.md 2.5. -/
theorem test_step_fence :
    stored (step ((storeByte (start []) 0x2000#32 0x80#8).withFetchWord 32 0x0FF0000F)) =
      some ([0x80#8, 0x81#8, 0x02#8, 0xF3#8, 0x44#8, 0x55#8, 0x66#8, 0x77#8], [0x2000]) := by decide

theorem test_step_fenceI :
    stored (step ((storeByte (start []) 0x2000#32 0x80#8).withFetchWord 32 0x0000100F)) =
      some ([0x80#8, 0x81#8, 0x02#8, 0xF3#8, 0x44#8, 0x55#8, 0x66#8, 0x77#8], []) := by decide

/-- 95_test_vectors.md 2.7. -/
theorem test_step_ecall : trapOf (run 0x00000073 []) = some ⟨.environmentCall, 0x00001000#32, none⟩ := by decide

theorem test_step_ebreak : trapOf (run 0x00100073 []) = some ⟨.breakpoint, 0x00001000#32, none⟩ := by decide

/-- Reserved fence words are refused (30_encoding.md R121). -/
theorem test_step_reserved_fences :
    refusalOf (run 0x1FF0000F []) = some (.reservedFence 0x1FF0000F#32) ∧
    refusalOf (run 0x0FF5050F []) = some (.reservedFence 0x0FF5050F#32) ∧
    refusalOf (run 0x0010100F []) = some (.reservedFence 0x0010100F#32) := by decide

/-- Listed-only and unassigned words trap with themselves as recorded value (95_test_vectors.md 2.9). -/
theorem test_step_illegal_words :
    trapOf (run 0x00000000 []) = some ⟨.illegalInstruction, 0x00001000#32, some 0x00000000#32⟩ ∧
    trapOf (run 0xFFFFFFFF []) = some ⟨.illegalInstruction, 0x00001000#32, some 0xFFFFFFFF#32⟩ ∧
    trapOf (run 0x0005E503 []) = some ⟨.illegalInstruction, 0x00001000#32, some 0x0005E503#32⟩ ∧
    trapOf (run 0x02159513 []) = some ⟨.illegalInstruction, 0x00001000#32, some 0x02159513#32⟩ ∧
    trapOf (run 0x02C5853B []) = some ⟨.illegalInstruction, 0x00001000#32, some 0x02C5853B#32⟩ ∧
    trapOf (run 0x1005A52F []) = some ⟨.illegalInstruction, 0x00001000#32, some 0x1005A52F#32⟩ ∧
    trapOf (run 0x6AC58543 []) = some ⟨.illegalInstruction, 0x00001000#32, some 0x6AC58543#32⟩ := by decide

/-- The six CSRs are read-only, every other is absent (44_csr_counters.md R302). -/
theorem test_step_absent_csr :
    trapOf (run 0x00102573 []) = some ⟨.illegalInstruction, 0x00001000#32, some 0x00102573#32⟩ ∧
    trapOf (run 0x30002573 []) = some ⟨.illegalInstruction, 0x00001000#32, some 0x30002573#32⟩ := by decide

/-- A fetch of a stored byte is refused; a fetch outside the legal region traps (20_memory.md R70). -/
theorem test_step_fetch :
    refusalOf (step (storeByte (start []) 0x1003#32 0#8)) = some (.staleFetch 0x1000#32) ∧
    trapOf (step { start [] with pc := 0x3FFC#32 }) = some ⟨.illegalInstruction, 0x3FFC#32, some 0#32⟩ ∧
    trapOf (step { start [] with pc := 0x4000#32 }) = some ⟨.instructionAccessFault, 0x4000#32, some 0x4000#32⟩ := by
  decide

/-! ### Witnesses: what meets the hypotheses of each statement that has some -/

/-- A running state of the vectors with registers of both signs. -/
def s0 : State := start [(10#5, 0xAABBCCDD#32), (11#5, 0x00002000#32), (12#5, 7#32)]

theorem test_witness_DecodeOfEncodeIsTheInstruction : (Instr.beq 10#5 11#5 0x1FF8#13).wf = true ∧
    (Instr.jal 1#5 0x1FFFF8#21).wf = true ∧ (Instr.sraiRv64 10#5 11#5 32#6).wf = true ∧
    (Instr.addi 10#5 11#5 0xFFF#12).wf = true := by decide

theorem test_witness_EncodeOfDecodeIsTheWord : decode 0xFEB51CE3#32 = .ok (.bne 10#5 11#5 0x1FF8#13) := by decide

/-- One word for each clause of the procedure. -/
theorem test_witness_DecodeFollowsTheProcedure :
    (0x00000012#32).extractLsb' 0 2 ≠ 0b11#2 ∧
    (0x0000001F#32).extractLsb' 0 2 = 0b11#2 ∧ (0x0000001F#32).extractLsb' 2 3 = 0b111#3 ∧
    executedRows.any (·.covers 0x00000013#32) = true ∧
    executedRows.any (·.covers 0x1000000F#32) = false ∧ HasOpcode 0x1000000F#32 0b0001111#7 ∧
    executedRows.any (·.covers 0x0000200F#32) = false ∧ HasOpcode 0x0000200F#32 0b0001111#7 := by decide

theorem test_witness_ExecutedRowsAreDisjoint :
    (⟨"LUI", 0x00000037#32, 0x0000007F#32, true⟩ : OpcodeRow) ∈ executedRows ∧
    (⟨"LUI", 0x00000037#32, 0x0000007F#32, true⟩ : OpcodeRow).covers 0x12345537#32 = true := by decide

theorem test_witness_DecodedWordsLieInTheirRow : decode 0x1005A52F#32 = .ok (.lrW 10#5 11#5 0#1 0#1) := by decide

theorem test_witness_MajorOpcodesWithoutAnInstructionTrap :
    (0x0000000B#32).extractLsb' 0 7 ∉ ([0b0110111#7, 0b0010111#7, 0b1101111#7, 0b1100111#7, 0b1100011#7, 0b0000011#7,
      0b0100011#7, 0b0010011#7, 0b0110011#7, 0b0001111#7, 0b1110011#7] : List (BitVec 7)) := by decide

theorem test_witness_ReservedFenceWordsAreRefused : ReservedFenceWord 0x1000000F#32 ∧ ReservedFenceWord 0x0010100F#32 ∧
    ¬ReservedFenceWord 0x0FF0000F#32 ∧ ¬ReservedFenceWord 0x0000100F#32 := by decide

/-- shamt 31 and 32 of each of the three forms. -/
theorem test_witness_Rv64ShiftWordsAreShiftsOrTrap :
    0x01F59513#32 &&& 0xFC00707F#32 = 0x00001013#32 ∧ (0x01F59513#32).getLsbD 25 = false ∧
    0x02059513#32 &&& 0xFC00707F#32 = 0x00001013#32 ∧ (0x02059513#32).getLsbD 25 = true ∧
    0x01F5D513#32 &&& 0xFC00707F#32 = 0x00005013#32 ∧ (0x01F5D513#32).getLsbD 25 = false ∧
    0x0205D513#32 &&& 0xFC00707F#32 = 0x00005013#32 ∧ (0x0205D513#32).getLsbD 25 = true ∧
    0x41F5D513#32 &&& 0xFC00707F#32 = 0x40005013#32 ∧ (0x41F5D513#32).getLsbD 25 = false ∧
    0x4205D513#32 &&& 0xFC00707F#32 = 0x40005013#32 ∧ (0x4205D513#32).getLsbD 25 = true := by decide

/-- A word stored where the vectors' region begins. -/
def s1 : State := s0.withFetchWord 32 0xFFF58513

theorem test_witness_StepRunsTheDecodedInstruction : s1.trap = none ∧ FourAligned s1.pc ∧ LegalFor s1 .fetch s1.pc 4 ∧
    (∀ k, k < 4 → (s1.pc + BitVec.ofNat 32 k).toNat ∉ s1.stale) ∧
    decode (byteAt s1 (s1.pc + 3#32) ++ byteAt s1 (s1.pc + 2#32) ++ byteAt s1 (s1.pc + 1#32) ++ byteAt s1 s1.pc) =
      .ok (.addi 10#5 11#5 0xFFF#12) := by decide

theorem test_witness_StepOnAWordThatIsNoInstructionTraps : s0.trap = none ∧ FourAligned s0.pc ∧
    fetch s0 = .word 0#32 ∧ decode 0#32 = .error .illegal := by decide

/-- The last legal pc, the first that is not, and a stale byte at each end of the fetched four. -/
theorem test_witness_FetchChecksLegalityThenStaleness : s0.trap = none ∧ FourAligned s0.pc ∧
    ¬LegalFor { s0 with pc := 0x4000#32 } .fetch 0x4000#32 4 ∧ LegalFor { s0 with pc := 0x3FFC#32 } .fetch 0x3FFC#32 4 ∧
    LegalFor s0 .fetch s0.pc 4 ∧ (s0.pc + BitVec.ofNat 32 0).toNat ∈ (storeByte s0 0x1000#32 0#8).stale ∧
    (s0.pc + BitVec.ofNat 32 3).toNat ∈ (storeByte s0 0x1003#32 0#8).stale ∧
    (∀ k, k < 4 → (s0.pc + BitVec.ofNat 32 k).toNat ∉ (storeByte s0 0x1004#32 0#8).stale) := by decide

/-- The trap outcome of an ECALL at the reset vector. -/
def sTrap : State := takeException s0 .environmentCall none

theorem test_witness_BetweenStepsOnlyCountersAdvance : s0.cfg.envQuiet = true ∧ sTrap.trap.isSome = true := by decide

theorem test_witness_APendingTrapIsTheEnvironmentsToAnswer :
    sTrap.trap = some ⟨.environmentCall, 0x1000#32, none⟩ ∧
    EnvService.endOfRun ⟨.environmentCall, 0x1000#32, none⟩ sTrap = none ∧
    (fun _ s => some { s with pc := s.pc + 4#32 } : EnvService) ⟨.environmentCall, 0x1000#32, none⟩ sTrap =
      some { sTrap with pc := 0x1004#32 } := by decide

theorem test_witness_EveryStepKeepsTheInvariant : State.wf s1 = true ∧ ∃ t, step s1 = .next t :=
  ⟨by decide, ⟨_, rfl⟩⟩

/-- The last aligned RESET_PC, a byte placed, and other cause numbers than the default. -/
theorem test_witness_AllowedLaunchesHaveTheInvariant : State.wf s0 = true ∧
    Launch.wf { Launch.atReset with
      resetPc := 0xFFFFFFFC#32, mem := [(0x2000, 1#8)]
      cfg := { Config.atReset with cause := { CauseTable.default with environmentCall := 11 } } } = true := by decide

/-- A launch whose cause numbers do not tell two exceptions apart is not one the spec allows (00_scope.md R4 P12). -/
theorem test_wf_refuses_equal_cause_numbers :
    Launch.wf { Launch.atReset with
      cfg := { Config.atReset with cause := { CauseTable.default with environmentCall := 3 } } } = false := by decide

theorem test_witness_TrapsArePrecise : s0.trap = none ∧
    ∃ t, step s0 = .next t ∧ t.trap = some ⟨.illegalInstruction, 0x1000#32, some 0#32⟩ :=
  ⟨by decide, ⟨_, rfl, by decide⟩⟩

theorem test_witness_EveryInstructionAnswersANextState : s0.trap = none := by decide

/-- One instruction for each exception an instruction raises. -/
theorem test_witness_EachInstructionRaisesOnlyItsOwnExceptions : s0.trap = none ∧
    (∃ t, exec (.jal 1#5 2#21) s0 = .next t ∧
      t.trap = some ⟨.instructionAddressMisaligned, 0x1000#32, some 0x1002#32⟩) ∧
    (∃ t, exec (.csrrw 10#5 0xC00#12 11#5) s0 = .next t ∧
      t.trap = some ⟨.illegalInstruction, 0x1000#32, some 0xC0059573#32⟩) ∧
    (∃ t, exec .ebreak s0 = .next t ∧ t.trap = some ⟨.breakpoint, 0x1000#32, none⟩) ∧
    (∃ t, exec (.lw 10#5 0#5 0#12) s0 = .next t ∧ t.trap = some ⟨.loadAccessFault, 0x1000#32, some 0#32⟩) ∧
    (∃ t, exec (.sw 0#5 10#5 0#12) s0 = .next t ∧ t.trap = some ⟨.storeAccessFault, 0x1000#32, some 0#32⟩) :=
  ⟨by decide, ⟨_, rfl, by decide⟩, ⟨_, rfl, by decide⟩, ⟨_, rfl, by decide⟩, ⟨_, rfl, by decide⟩, ⟨_, rfl, by decide⟩⟩

/-- One instruction that completes and one that traps. -/
theorem test_witness_InstretCountsExactlyTheRetired : s0.trap = none ∧ s0.instret ≠ BitVec.allOnes 64 ∧
    (∃ t, exec (.addi 10#5 10#5 1#12) s0 = .next t ∧ t.trap = none) ∧
    (∃ t, exec .ecall s0 = .next t ∧ t.trap = some ⟨.environmentCall, 0x1000#32, none⟩) :=
  ⟨by decide, by decide, ⟨_, rfl, by decide⟩, ⟨_, rfl, by decide⟩⟩

theorem test_witness_CountersNeverDecreaseOverAStep : s1.instret ≠ BitVec.allOnes 64 ∧ ∃ t, step s1 = .next t :=
  ⟨by decide, ⟨_, rfl⟩⟩

theorem test_witness_OnlyTheDestinationRegisterChanges :
    ∃ t, exec (.addi 10#5 11#5 1#12) s0 = .next t ∧ readX t 10#5 ≠ readX s0 10#5 := ⟨_, rfl, by decide⟩

theorem test_witness_OnlyStoresChangeMemory : isStore .fenceI = false ∧ isStore (.addi 10#5 11#5 1#12) = false ∧
    (∃ t, exec .fenceI (storeByte s0 0x1000#32 1#8) = .next t) ∧ ∃ t, exec (.addi 10#5 11#5 1#12) s0 = .next t :=
  ⟨by decide, by decide, ⟨_, rfl⟩, ⟨_, rfl⟩⟩

/-- The first and the last register that can be written. -/
theorem test_witness_RegisterZeroReadsZeroAndDiscardsWrites : (1#5 : Reg) ≠ 0#5 ∧ (31#5 : Reg) ≠ 0#5 := by decide

/-- The even offsets nearest to each end of the range. -/
theorem test_witness_even_offsets : (0x0FFFFE#21).getLsbD 0 = false ∧ (0x100000#21).getLsbD 0 = false ∧
    (0x0FFE#13).getLsbD 0 = false ∧ (0x1000#13).getLsbD 0 = false := by decide

/-- An aligned and a misaligned target. -/
theorem test_witness_JumpAndLinkResults : FourAligned (s0.pc + (0x1FFFF8#21).signExtend 32) ∧
    ¬FourAligned (s0.pc + (2#21).signExtend 32) := by decide

/-- Aligned, misaligned and aligned after clearing bit 0; a word of the opcode with another funct3. -/
theorem test_witness_JumpAndLinkRegisterResults :
    FourAligned ((readX s0 11#5 + (4#12).signExtend 32) &&& 0xFFFFFFFE#32) ∧
    FourAligned ((readX s0 11#5 + (1#12).signExtend 32) &&& 0xFFFFFFFE#32) ∧
    ¬FourAligned ((readX s0 11#5 + (3#12).signExtend 32) &&& 0xFFFFFFFE#32) ∧
    HasOpcode 0x000510E7#32 0b1100111#7 ∧ (0x000510E7#32).extractLsb' 12 3 ≠ 0b000#3 := by decide

/-- Each comparison both ways, with an aligned and a misaligned target. -/
theorem test_witness_BranchResults : FourAligned (s0.pc + (0x1FF8#13).signExtend 32) ∧
    ¬FourAligned (s0.pc + (2#13).signExtend 32) ∧
    readX s0 10#5 ≠ readX s0 11#5 ∧ (readX s0 10#5).toInt < (readX s0 11#5).toInt ∧
    ¬(readX s0 10#5).toInt ≥ (readX s0 11#5).toInt ∧ ¬(readX s0 10#5).toNat < (readX s0 11#5).toNat ∧
    (readX s0 10#5).toNat ≥ (readX s0 11#5).toNat := by decide

/-- The vectors' state with `MISALIGNED_DATA = trap`. -/
def sStrict : State := { s0 with cfg := { s0.cfg with misalignedData := .trap } }

/-- The last address at which each width is legal, misaligned accesses supported; the last aligned one, if not. -/
theorem test_witness_LoadResults : AlignmentServed s0 0x3FFF#32 1 ∧ LegalFor s0 .load 0x3FFF#32 1 ∧
    AlignmentServed s0 0x2001#32 2 ∧ LegalFor s0 .load 0x2001#32 2 ∧ LegalFor s0 .load 0x3FFE#32 2 ∧
    AlignmentServed s0 0x2003#32 4 ∧ LegalFor s0 .load 0x2003#32 4 ∧ LegalFor s0 .load 0x3FFC#32 4 ∧
    AlignmentServed sStrict 0x3FFE#32 2 ∧ AlignmentServed sStrict 0x3FFC#32 4 := by decide

theorem test_witness_StoreResults : AlignmentServed s0 0x3FFF#32 1 ∧ LegalFor s0 .store 0x3FFF#32 1 ∧
    AlignmentServed s0 0x3FFE#32 2 ∧ LegalFor s0 .store 0x3FFE#32 2 ∧
    AlignmentServed s0 0x3FFC#32 4 ∧ LegalFor s0 .store 0x3FFC#32 4 ∧
    AlignmentServed s0 0x2001#32 2 ∧ AlignmentServed s0 0x2003#32 4 := by decide

/-- Misaligned under `trap`; served but with the last byte illegal; served and legal. -/
theorem test_witness_LoadAndStoreExceptions : ¬AlignmentServed sStrict 0x2001#32 2 ∧ ¬AlignmentServed sStrict 0x2002#32 4 ∧
    AlignmentServed s0 0x4000#32 1 ∧ ¬LegalFor s0 .load 0x4000#32 1 ∧ ¬LegalFor s0 .store 0x4000#32 1 ∧
    AlignmentServed s0 0x3FFF#32 2 ∧ ¬LegalFor s0 .load 0x3FFF#32 2 ∧ ¬LegalFor s0 .store 0x3FFF#32 2 ∧
    AlignmentServed s0 0x3FFD#32 4 ∧ ¬LegalFor s0 .load 0x3FFD#32 4 ∧ ¬LegalFor s0 .store 0x3FFD#32 4 ∧
    AlignmentServed sStrict 0x2002#32 2 ∧ LegalFor sStrict .load 0x2002#32 2 ∧ LegalFor sStrict .store 0x2002#32 2 ∧
    readX s0 11#5 + (0#12).signExtend 32 = 0x2000#32 := by decide

theorem test_witness_LoadsToRegisterZeroStillAccess : s0.trap = none ∧
    (∃ t, exec (.lw 0#5 11#5 0#12) s0 = .next t ∧ t.trap = none) ∧
    ∃ t, exec (.lw 0#5 0#5 0#12) s0 = .next t ∧ t.trap = some ⟨.loadAccessFault, 0x1000#32, some 0#32⟩ :=
  ⟨by decide, ⟨_, rfl, by decide⟩, ⟨_, rfl, by decide⟩⟩

/-- After SW to 0x2004, LB and LBU at the first and the last stored byte, LH and LHU at each place within the word
(served misaligned, and aligned with `MISALIGNED_DATA = trap`), LW at the word. -/
theorem test_witness_LoadAfterStoreSeesTheStoredBytes : s0.trap = none ∧ sStrict.trap = none ∧
    (∃ t, exec (.sw 11#5 10#5 4#12) s0 = .next t ∧ t.trap = none ∧
      (∀ i : Nat, i < 4 → readX t 11#5 + (4#12 + BitVec.ofNat 12 i).signExtend 32 =
        readX s0 11#5 + (4#12).signExtend 32 + BitVec.ofNat 32 i) ∧
      LegalFor t .load 0x2004#32 1 ∧ LegalFor t .load 0x2007#32 1 ∧
      AlignmentServed t 0x2005#32 2 ∧ LegalFor t .load 0x2004#32 2 ∧ LegalFor t .load 0x2005#32 2 ∧
      LegalFor t .load 0x2006#32 2 ∧ AlignmentServed t 0x2004#32 4 ∧ LegalFor t .load 0x2004#32 4) ∧
    ∃ t, exec (.sw 11#5 10#5 4#12) sStrict = .next t ∧ t.trap = none ∧ AlignmentServed t 0x2004#32 2 ∧
      AlignmentServed t 0x2006#32 2 ∧ AlignmentServed t 0x2004#32 4 :=
  ⟨by decide, by decide, ⟨_, rfl, by decide⟩, ⟨_, rfl, by decide⟩⟩

/-- A byte stored at 0x2003: FENCE and FENCE.I complete after it, and it is the last byte of an aligned fetch at 0x2000,
which is legal before and after the FENCE, and the first of the four bytes from 0x2003. -/
theorem test_witness_StoredBytesAreFetchableOnlyAfterFenceI : isStore (.sb 11#5 10#5 3#12) = true ∧
    accessAddress (.sb 11#5 10#5 3#12) s0 = some 0x2003#32 ∧ s0.trap = none ∧ 0 < storeWidth (.sb 11#5 10#5 3#12) ∧
    (∃ t, exec (.sb 11#5 10#5 3#12) s0 = .next t ∧ t.trap = none ∧ LegalFor t .fetch 0x2000#32 4 ∧
      LegalFor t .fetch 0x2003#32 4 ∧
      ∃ u, exec (.fence 0xF#4 0xF#4) t = .next u ∧ LegalFor u .fetch 0x2000#32 4 ∧ LegalFor u .fetch 0x2003#32 4) ∧
    (0x2000#32 : Word) + BitVec.ofNat 32 3 = 0x2003#32 + BitVec.ofNat 32 0 ∧ FourAligned 0x2000#32 ∧
    (0x2003#32 : Word) + BitVec.ofNat 32 0 = 0x2003#32 + BitVec.ofNat 32 0 :=
  ⟨by decide, by decide, by decide, by decide,
    ⟨_, rfl, by decide, by decide, by decide, ⟨_, rfl, by decide, by decide⟩⟩, by decide, by decide, rfl⟩

/-- A word stored at 0x2FFE: its first and its last byte are in the fetches at 0x2FFC and at 0x3000. -/
theorem test_witness_StoredBytesAreFetchableOnlyAfterFenceI_word : storeWidth (.sw 11#5 10#5 0#12) = 4 ∧
    accessAddress (.sw 11#5 10#5 0#12) (writeX s0 11#5 0x2FFE#32) = some 0x2FFE#32 ∧
    (∃ t, exec (.sw 11#5 10#5 0#12) (writeX s0 11#5 0x2FFE#32) = .next t ∧ t.trap = none ∧
      LegalFor t .fetch 0x2FFC#32 4 ∧ LegalFor t .fetch 0x3000#32 4) ∧
    (0x2FFC#32 : Word) + BitVec.ofNat 32 2 = 0x2FFE#32 + BitVec.ofNat 32 0 ∧
    (0x3000#32 : Word) + BitVec.ofNat 32 1 = 0x2FFE#32 + BitVec.ofNat 32 3 :=
  ⟨rfl, by decide, ⟨_, rfl, by decide⟩, by decide, by decide⟩

/-- An absent CSR on each side of the allocated ones, a written form of each kind, each counter read. -/
theorem test_witness_CsrOutcomeTable :
    0xBFF#12 ∉ ([0xC00#12, 0xC01#12, 0xC02#12, 0xC80#12, 0xC81#12, 0xC82#12] : List (BitVec 12)) ∧
    0xC03#12 ∉ ([0xC00#12, 0xC01#12, 0xC02#12, 0xC80#12, 0xC81#12, 0xC82#12] : List (BitVec 12)) ∧
    (1#5 : BitVec 5) ≠ 0#5 ∧ (31#5 : BitVec 5) ≠ 0#5 ∧
    s0.cycle.extractLsb' 0 32 = 0x12345678#32 ∧ s0.instret.extractLsb' 32 32 = 2#32 := by decide

theorem test_witness_ConsecutiveInstretReadsDifferByOne : s0.cfg.envQuiet = true ∧ s0.instret ≠ BitVec.allOnes 64 ∧
    ∃ t, exec (.csrrs 10#5 0xC02#12 0#5) s0 = .next t ∧
      ∃ u, exec (.csrrs 11#5 0xC02#12 0#5) (betweenSteps t) = .next u :=
  ⟨by decide, by decide, ⟨_, rfl, ⟨_, rfl⟩⟩⟩

/-- The low half wraps between the second and the third reading of another counter; the high halves agree. -/
theorem test_witness_HighLowHighReadIsConsistent :
    s0.cycle.toNat ≤ ({ s0 with cycle := 0x00000005FFFFFFFF#64 } : State).cycle.toNat ∧
    csrRead s0 .cycleh = csrRead { s0 with cycle := 0x00000005FFFFFFFF#64 } .cycleh ∧
    csrRead s0 .timeh = csrRead s0 .timeh ∧ csrRead s0 .instreth = csrRead s0 .instreth := by decide

/-- A zero divisor, the overflow, and a plain division of each sign. -/
theorem test_witness_DivisionAndRemainderResults : readX s0 0#5 = 0#32 ∧
    readX (start [(11#5, 0x80000000#32), (12#5, 0xFFFFFFFF#32)]) 11#5 = 0x80000000#32 ∧
    readX (start [(11#5, 0x80000000#32), (12#5, 0xFFFFFFFF#32)]) 12#5 = 0xFFFFFFFF#32 ∧
    readX s0 12#5 ≠ 0#32 ∧ (readX s0 10#5).toInt ≤ 0 ∧ 0 ≤ (readX s0 11#5).toInt ∧
    ¬(readX s0 10#5 = 0x80000000#32 ∧ readX s0 12#5 = 0xFFFFFFFF#32) := by decide

theorem test_witness_Rv64WordsTrap : (32#6).getLsbD 5 = true ∧ (63#6).getLsbD 5 = true := by decide

theorem test_witness_LoadAddressAndLoadImmediateBuildTheirValue : s0.trap = none ∧ (10#5 : Reg) ≠ 0#5 := by decide

/-- A target forward over the +0x800 boundary and one backward. -/
theorem test_witness_CallReachesAnyAlignedTarget : s0.trap = none ∧ FourAligned (s0.pc + 0x800#32) ∧
    FourAligned (s0.pc + 0xFFFFFFFC#32) := by decide

/-- An aligned target of the branch, and additions that overflow and that do not. -/
theorem test_witness_OverflowChecksBranchExactlyOnOverflow : s0.trap = none ∧
    FourAligned (s0.pc + 4#32 + (8#13).signExtend 32) ∧ 0 < (1#12).toInt ∧
    2147483648 ≤ (readX (start [(6#5, 0x7FFFFFFF#32)]) 6#5).toInt + (1#12).toInt ∧
    ¬2147483648 ≤ (readX (start [(6#5, 0x7FFFFFFE#32)]) 6#5).toInt + (1#12).toInt := by decide

end Sys2Proof.Tests
end

section
/-! SUPPORT. Alignment, instret and the record of a trap: the facts about the parts of a state that the lemmas about
`exec`, `step` and the invariant below rest on. -/

namespace Sys2Proof.Machine

/-! ### Alignment (10_state.md R26) -/

theorem fourAligned_iff (a : Word) : FourAligned a ↔ a.extractLsb' 0 2 = 0#2 := by
  simp [FourAligned, ← BitVec.toNat_inj]

theorem targetMisaligned_eq_false_iff (a : Word) : targetMisaligned a = false ↔ a.extractLsb' 0 2 = 0#2 := by
  simp [targetMisaligned]

/-- Going on to the next word keeps pc[1:0]. -/
@[simp] theorem extractLsb'_zero_two_add_four (a : Word) : (a + 4#32).extractLsb' 0 2 = a.extractLsb' 0 2 := by
  apply BitVec.eq_of_toNat_eq
  simp only [BitVec.extractLsb'_toNat, BitVec.toNat_add, BitVec.toNat_ofNat]
  omega

/-! ### instret (10_state.md R32) -/

/-- Away from the largest value one more is no wrap. -/
theorem toNat_instret_add_one {c : Counter} (h : c ≠ BitVec.allOnes 64) : (c + 1#64).toNat = c.toNat + 1 := by
  have hc : c.toNat ≠ 18446744073709551615 := fun he => h (BitVec.eq_of_toNat_eq he)
  bv_omega

/-- The low half of a counter counts modulo 2^32. -/
theorem extractLsb'_low_half_add_one (c : Counter) :
    (c + 1#64).extractLsb' 0 32 = c.extractLsb' 0 32 + 1#32 := by
  apply BitVec.eq_of_toNat_eq
  simp only [BitVec.extractLsb'_toNat, BitVec.toNat_add, BitVec.toNat_ofNat]
  omega

/-- One more instruction retired is one more in the low half that a program reads (R33). -/
theorem csrRead_instret_of_add_one {s t : State} (h : t.instret = s.instret + 1#64) :
    csrRead t .instret = csrRead s .instret + 1#32 := by
  simp only [csrRead, h, extractLsb'_low_half_add_one]

/-! ### Between two steps (10_state.md R30 to R32) -/

theorem cycle_le_betweenSteps (s : State) : s.cycle.toNat ≤ (betweenSteps s).cycle.toNat := le_advance _ _

theorem time_le_betweenSteps (s : State) : s.time.toNat ≤ (betweenSteps s).time.toNat := le_advance _ _

theorem instret_betweenSteps_of_quiet {s : State} (h : s.cfg.envQuiet = true) :
    (betweenSteps s).instret = s.instret := by
  simp [h]

theorem instret_betweenSteps_of_trap {s : State} (h : s.trap.isSome = true) :
    (betweenSteps s).instret = s.instret := by
  simp [h]

theorem instret_le_betweenSteps (s : State) : s.instret.toNat ≤ (betweenSteps s).instret.toNat := by
  rw [betweenSteps_instret]
  split
  · exact le_rfl
  · exact le_advance _ _

/-! ### Completing: `retireTo` after the writes of an instruction (10_state.md R39) -/

/-- An instruction retires from `u` at `next`; `u` is the state before it but for registers, memory and `stale`. -/
theorem retires_retireTo {s u : State} (next : Word) (hi : u.instret = s.instret) (hc : u.cycle = s.cycle)
    (ht : u.time = s.time) (hr : u.trap = s.trap) (hp : u.cfg = s.cfg) (hd : u.draws = s.draws) :
    Retires s (retireTo u next) next :=
  ⟨rfl, fun h => by rw [retireTo_instret, bumpInstret_eq u (hi ▸ h), hi], hc, ht, hr, hp, hd⟩

theorem retires_retireTo_self (s : State) (next : Word) : Retires s (retireTo s next) next :=
  retires_retireTo next rfl rfl rfl rfl rfl rfl

theorem retires_retireTo_writeX (s : State) (rd : Reg) (v next : Word) :
    Retires s (retireTo (writeX s rd v) next) next :=
  retires_retireTo next (writeX_instret ..) (writeX_cycle ..) (writeX_time ..) (writeX_trap ..) (writeX_cfg ..)
    (writeX_draws ..)

theorem retires_retire_writeX (s : State) (rd : Reg) (v : Word) :
    Retires s (retire (writeX s rd v)) (s.pc + 4#32) := by
  rw [retire, writeX_pc]
  exact retires_retireTo_writeX s rd v _

theorem retires_retire_storeBytes (s : State) (a : Word) (bs : List Byte) :
    Retires s (retire (storeBytes s a bs)) (s.pc + 4#32) := by
  rw [retire, storeBytes_pc]
  exact retires_retireTo _ (storeBytes_instret ..) (storeBytes_cycle ..) (storeBytes_time ..) (storeBytes_trap ..)
    (storeBytes_cfg ..) (storeBytes_draws ..)

end Sys2Proof.Machine
end

section
/-! SUPPORT. What an instruction does to each part of the state, read off the ways it can end (`Ends`), and that it
always answers a next state. -/

namespace Sys2Proof.Machine

/-! ### An instruction traps or completes (60_exceptions.md R500, 10_state.md R39) -/

theorem Ends.traps_or_retires {i : Instr} {s t : State} (h : Ends i s t) :
    (∃ e v, mayRaise i e = true ∧ ValueFits i s e v ∧ t = takeException s e v) ∨ ∃ next, Retires s t next := by
  cases h with
  | traps e v allowed fits => exact .inl ⟨e, v, allowed, fits, rfl⟩
  | writes rd v _ => exact .inr ⟨_, retires_retire_writeX s rd v⟩
  | links rd target _ _ => exact .inr ⟨_, retires_retireTo_writeX s rd _ target⟩
  | goes target _ => exact .inr ⟨_, retires_retireTo_self s target⟩
  | falls => exact .inr ⟨_, retires_retireTo_self s _⟩
  | stores ea n v _ _ _ => exact .inr ⟨_, retires_retire_storeBytes s ea _⟩
  | empties _ => exact .inr ⟨_, retires_retireTo _ rfl rfl rfl rfl rfl rfl⟩

theorem Ends.cycle_eq {i : Instr} {s t : State} (h : Ends i s t) : t.cycle = s.cycle := by
  obtain ⟨e, v, -, -, rfl⟩ | ⟨next, -, -, hcycle, -⟩ := h.traps_or_retires
  · rfl
  · exact hcycle

theorem Ends.time_eq {i : Instr} {s t : State} (h : Ends i s t) : t.time = s.time := by
  obtain ⟨e, v, -, -, rfl⟩ | ⟨next, -, -, -, htime, -⟩ := h.traps_or_retires
  · rfl
  · exact htime

/-- From a running hart: no trap and instret one more, or a trap at this pc and instret the same (R32). -/
theorem Ends.instret_and_trap {i : Instr} {s t : State} (h : Ends i s t) (hrun : s.trap = none) :
    (t.trap = none ∧ (s.instret ≠ BitVec.allOnes 64 → t.instret = s.instret + 1#64)) ∨
    (∃ e v, t.trap = some ⟨e, s.pc, v⟩ ∧ t.pc = s.pc ∧ t.instret = s.instret) := by
  obtain ⟨e, v, -, -, rfl⟩ | ⟨next, -, hinstret, -, -, htrap, -⟩ := h.traps_or_retires
  · exact .inr ⟨e, v, rfl, rfl, rfl⟩
  · exact .inl ⟨htrap.trans hrun, hinstret⟩

/-! ### Registers, memory and `stale` -/

/-- The registers are as before, or as after one write to the destination (R21, R22). -/
theorem Ends.registers {i : Instr} {s t : State} (h : Ends i s t) :
    SameRegisters s t ∨ ∃ rd v, destination i = some rd ∧ SameRegisters (writeX s rd v) t := by
  cases h with
  | traps e v _ _ => exact .inl fun _ => rfl
  | writes rd v isDestination => exact .inr ⟨rd, v, isDestination, fun _ => rfl⟩
  | links rd target isDestination _ => exact .inr ⟨rd, s.pc + 4#32, isDestination, fun _ => rfl⟩
  | goes target _ => exact .inl fun _ => rfl
  | falls => exact .inl fun _ => rfl
  | stores ea n v _ _ _ => exact .inl fun q => by simp
  | empties _ => exact .inl fun _ => rfl

/-- Memory is as before unless the instruction is a store (R37). -/
theorem Ends.mem_eq {i : Instr} {s t : State} (h : Ends i s t) (hi : isStore i = false) : t.mem = s.mem := by
  cases h with
  | traps e v _ _ => rfl
  | writes rd v _ => exact writeX_mem s rd v
  | links rd target _ _ => exact writeX_mem s rd _
  | goes target _ => rfl
  | falls => rfl
  | stores ea n v isAStore _ _ => exact absurd isAStore (by simp [hi])
  | empties _ => rfl

/-- `stale` is as before unless the instruction is a store or FENCE.I, which empties it (R38). -/
theorem Ends.stale_eq {i : Instr} {s t : State} (h : Ends i s t) (hi : isStore i = false) :
    t.stale = s.stale ∨ (i = .fenceI ∧ t.stale = []) := by
  cases h with
  | traps e v _ _ => exact .inl rfl
  | writes rd v _ => exact .inl (writeX_stale s rd v)
  | links rd target _ _ => exact .inl (writeX_stale s rd _)
  | goes target _ => exact .inl rfl
  | falls => exact .inl rfl
  | stores ea n v isAStore _ _ => exact absurd isAStore (by simp [hi])
  | empties isFenceI => exact .inr ⟨isFenceI, rfl⟩

/-! ### Every instruction answers a next state (10_state.md R39) -/

/-- The outcome is a next state: neither a fault nor a refusal. -/
def Answers (r : StepResult) : Prop := ∃ t, r = .next t

theorem answers_next (t : State) : Answers (.next t) := ⟨t, rfl⟩

theorem answers_ite {c : Prop} [Decidable c] {a b : StepResult} (ha : Answers a) (hb : Answers b) :
    Answers (if c then a else b) := by
  split
  · exact ha
  · exact hb

theorem answers_jumpAndLink (s : State) (rd : Reg) (target : Word) : Answers (jumpAndLink s rd target) :=
  answers_ite (answers_next _) (answers_next _)

theorem answers_branchIf (s : State) (taken : Bool) (off : BitVec 13) : Answers (branchIf s taken off) :=
  answers_ite (answers_ite (answers_next _) (answers_next _)) (answers_next _)

theorem answers_loadTo (s : State) (rd : Reg) (ea : Word) (n : Nat) (v : Word) : Answers (loadTo s rd ea n v) := by
  unfold loadTo
  split
  · exact answers_next _
  · exact answers_next _

theorem answers_storeFrom (s : State) (ea : Word) (n : Nat) (v : Word) : Answers (storeFrom s ea n v) := by
  unfold storeFrom
  split
  · exact answers_next _
  · exact answers_next _

theorem answers_csrComplete (s : State) (c : Csr) (rd : Reg) (readsOld : Bool) (written : Option Word) :
    Answers (csrComplete s c rd readsOld written) := by
  cases written with
  | none => exact answers_next _
  | some v => exact answers_next _

/-- A CSR form answers if it does where the check passes; where it fails it raises IllegalInstruction. -/
theorem answers_csr {i : Instr} {s : State} {csr : BitVec 12} {doesWrite : Bool} {f : Csr → StepResult}
    (hf : ∀ c, Answers (f c)) :
    Answers (match csrCheck csr doesWrite with | none => illegal i s | some c => f c) := by
  split
  · exact answers_next _
  · exact hf _

theorem answers_exec (i : Instr) (s : State) : Answers (exec i s) := by
  cases i with
  | jal | jalr => exact answers_jumpAndLink ..
  | beq | bne | blt | bge | bltu | bgeu => exact answers_branchIf ..
  | lb | lh | lw | lbu | lhu => exact answers_loadTo ..
  | sb | sh | sw => exact answers_storeFrom ..
  | csrrw | csrrs | csrrc | csrrwi | csrrsi | csrrci => exact answers_csr fun _ => answers_csrComplete ..
  | slliRv64 | srliRv64 | sraiRv64 => exact answers_ite (answers_next _) (answers_next _)
  | _ => exact answers_next _

/-- CSRRS with rs1 = x0 reads an implemented CSR into rd (44_csr_counters.md R292). -/
theorem exec_csrrs_x0 {csr : BitVec 12} {c : Csr} (h : csrAt csr = some c) (rd : Reg) (s : State) :
    exec (.csrrs rd csr 0#5) s = .next (retire (writeX s rd (csrRead s c))) := by
  have hc : csrCheck csr (0#5 != 0#5) = some c := csrCheck_eq_some.2 ⟨h, rfl⟩
  simp only [exec, execCsrrs, hc, if_true, csrComplete_read]

end Sys2Proof.Machine
end

section
/-! SUPPORT. What one step can do: an equation for each way a step of a running hart goes, and `Steps`, the cases of a
step that answers a next state. -/

namespace Sys2Proof.Machine

/-! ### Running a word -/

theorem runWord_of_decode_ok {w : Word} {i : Instr} (h : decode w = .ok i) (s : State) : runWord w s = exec i s := by
  simp only [runWord, h]

theorem runWord_of_decode_illegal {w : Word} (h : decode w = .error .illegal) (s : State) :
    runWord w s = .next (takeException s .illegalInstruction (some w)) := by
  simp only [runWord, h, raise_eq]

theorem runWord_of_decode_reservedFence {w : Word} (h : decode w = .error .reservedFence) (s : State) :
    runWord w s = .refused (.reservedFence w) := by
  simp only [runWord, h]

/-- What a word that answers a next state did. -/
theorem runWord_cases {w : Word} {s u : State} (h : runWord w s = .next u) :
    (∃ i, decode w = .ok i ∧ exec i s = .next u) ∨
    (∃ e, e ≠ .reservedFence ∧ decode w = .error e ∧ u = takeException s .illegalInstruction (some w)) := by
  cases hd : decode w with
  | ok i => exact .inl ⟨i, rfl, by rwa [runWord_of_decode_ok hd] at h⟩
  | error e =>
    cases e with
    | reservedFence =>
      rw [runWord_of_decode_reservedFence hd] at h
      cases h
    | illegal =>
      rw [runWord_of_decode_illegal hd] at h
      cases h
      exact .inr ⟨.illegal, nofun, rfl, rfl⟩
    | truncated =>
      simp only [runWord, hd, raise_eq] at h
      cases h
      exact .inr ⟨.truncated, nofun, rfl, rfl⟩

/-! ### Fetching (20_memory.md R70) -/

/-- The fetch gives a word exactly where its four bytes are legal and none is stale: the little-endian one. -/
theorem fetch_eq_word_iff (s : State) (w : Word) :
    fetch s = .word w ↔ legalRange s.cfg .fetch s.pc 4 = true ∧ staleTouches s s.pc 4 = false ∧ mem32 s s.pc = w := by
  unfold fetch
  split <;> [split; skip] <;> simp_all

/-! ### The step -/

theorem step_of_running {s : State} (h : s.trap = none) : step s = runInstruction s := by
  simp only [step, stepEnv, h]

theorem step_of_trap {s : State} {r : TrapRecord} (h : s.trap = some r) : step s = .fault (.endOfRun r) := by
  simp only [step, stepEnv, h, EnvService.endOfRun]

theorem afterStep_eq_next_iff (r : StepResult) (t : State) :
    afterStep r = .next t ↔ ∃ u, r = .next u ∧ t = betweenSteps u := by
  cases r <;> simp [afterStep, eq_comm]

/-- A running hart whose fetch gives a word runs it. -/
theorem step_of_fetch_word {s : State} {w : Word} (hrun : s.trap = none) (ha : FourAligned s.pc)
    (hf : fetch s = .word w) : step s = afterStep (runWord w s) := by
  rw [step_of_running hrun, runInstruction, if_pos ((fourAligned_iff s.pc).1 ha), hf]

/-- What an instruction of a running hart does before the counters advance (10_state.md R39 clauses 1 to 5). -/
inductive Steps (s : State) : State → Prop where
  | cannotFetch (fetched : fetch s = .accessFault) : Steps s (takeException s .instructionAccessFault (some s.pc))
  | noInstruction (w : Word) (e : DecodeError) (fetched : fetch s = .word w) (decoded : decode w = .error e)
      (meaningful : e ≠ .reservedFence) : Steps s (takeException s .illegalInstruction (some w))
  | executes (w : Word) (i : Instr) (u : State) (fetched : fetch s = .word w) (decoded : decode w = .ok i)
      (executed : exec i s = .next u) : Steps s u

/-- Everything a step can do. -/
theorem step_cases {s t : State} (h : step s = .next t) :
    s.trap = none ∧ FourAligned s.pc ∧ ∃ u, Steps s u ∧ t = betweenSteps u := by
  cases hrun : s.trap with
  | some r =>
    rw [step_of_trap hrun] at h
    cases h
  | none =>
    rw [step_of_running hrun, runInstruction] at h
    split at h
    next ha =>
      refine ⟨rfl, (fourAligned_iff s.pc).2 ha, ?_⟩
      cases hf : fetch s with
      | accessFault =>
        simp only [hf, raise_eq] at h
        cases h
        exact ⟨_, .cannotFetch hf, rfl⟩
      | stale =>
        simp only [hf] at h
        cases h
      | word w =>
        simp only [hf, afterStep_eq_next_iff] at h
        obtain ⟨u, hu, rfl⟩ := h
        obtain ⟨i, hd, he⟩ | ⟨e, hne, hd, rfl⟩ := runWord_cases hu
        · exact ⟨u, .executes w i u hf hd he, rfl⟩
        · exact ⟨_, .noInstruction w e hf hd hne, rfl⟩
    next => cases h

/-- No step moves cycle or time before the counters advance, and instret only up (R30 to R32). -/
theorem Steps.counters {s u : State} (h : Steps s u) (hrun : s.trap = none) :
    u.cycle = s.cycle ∧ u.time = s.time ∧ (s.instret ≠ BitVec.allOnes 64 → s.instret.toNat ≤ u.instret.toNat) := by
  cases h with
  | cannotFetch _ => exact ⟨rfl, rfl, fun _ => le_rfl⟩
  | noInstruction w e _ _ _ => exact ⟨rfl, rfl, fun _ => le_rfl⟩
  | executes w i u _ _ executed =>
    have hends := exec_cases executed
    refine ⟨hends.cycle_eq, hends.time_eq, fun hmax => ?_⟩
    obtain ⟨-, hinstret⟩ | ⟨e, v, -, -, hinstret⟩ := hends.instret_and_trap hrun
    · rw [hinstret hmax, toNat_instret_add_one hmax]
      exact Nat.le_succ _
    · rw [hinstret]

end Sys2Proof.Machine
end

section
/-! SUPPORT. The invariant `State.wf`, part by part: what each operation of the hart does to it. -/

namespace Sys2Proof.Machine

/-- A pending trap names the pc of the state that holds it, with a value that fits (60_exceptions.md R501, R510). -/
def TrapTrue (s : State) : Prop := ∀ r, s.trap = some r → r.pc = s.pc ∧ TrapRecord.wf r = true

theorem State.wf_iff (s : State) :
    State.wf s = true ↔ FourAligned s.pc ∧ Memory.wf s.mem = true ∧ staleWfFrom 0 s.stale = true ∧
      CauseTable.wf s.cfg.cause = true ∧ TrapTrue s := by
  simp only [State.wf, TrapTrue, Bool.and_eq_true, decide_eq_true_eq, fourAligned_iff, and_assoc]
  cases s.trap <;> simp

theorem trapTrue_of_running {s : State} (h : s.trap = none) : TrapTrue s := by
  intro r hr
  rw [h] at hr
  cases hr

/-- The counters and the draws are no part of the invariant. -/
theorem wf_betweenSteps (s : State) : State.wf (betweenSteps s) = State.wf s := rfl

theorem wf_takeException {s : State} {e : Exc} {v : Option Word} (hs : State.wf s = true)
    (hv : TrapRecord.wf ⟨e, s.pc, v⟩ = true) : State.wf (takeException s e v) = true := by
  obtain ⟨hpc, hmem, hstale, hcause, -⟩ := (State.wf_iff s).1 hs
  refine (State.wf_iff _).2 ⟨hpc, hmem, hstale, hcause, ?_⟩
  rintro r ⟨⟩
  exact ⟨rfl, hv⟩

/-- Completing in a running hart keeps the invariant if the target is aligned. -/
theorem wf_retireTo {s : State} {target : Word} (hs : State.wf s = true) (hrun : s.trap = none)
    (ht : FourAligned target) : State.wf (retireTo s target) = true := by
  obtain ⟨-, hmem, hstale, hcause, -⟩ := (State.wf_iff s).1 hs
  exact (State.wf_iff _).2 ⟨ht, hmem, hstale, hcause, trapTrue_of_running hrun⟩

theorem wf_retire {s : State} (hs : State.wf s = true) (hrun : s.trap = none) : State.wf (retire s) = true := by
  refine wf_retireTo hs hrun ?_
  rw [fourAligned_iff, extractLsb'_zero_two_add_four, ← fourAligned_iff]
  exact ((State.wf_iff s).1 hs).1

/-- The registers are no part of the invariant. -/
theorem wf_writeX (s : State) (r : Reg) (v : Word) : State.wf (writeX s r v) = State.wf s := by
  simp only [State.wf, writeX_pc, writeX_mem, writeX_stale, writeX_cfg, writeX_trap]

theorem wf_storeBytes {s : State} (a : Word) (bs : List Byte) (hs : State.wf s = true) :
    State.wf (storeBytes s a bs) = true := by
  obtain ⟨hpc, hmem, hstale, hcause, htrap⟩ := (State.wf_iff s).1 hs
  refine (State.wf_iff _).2 ⟨?_, wf_mem_storeBytes a bs hmem, wf_stale_storeBytes a bs hstale, ?_, ?_⟩
  · rwa [storeBytes_pc]
  · rwa [storeBytes_cfg]
  · simpa only [TrapTrue, storeBytes_trap, storeBytes_pc] using htrap

theorem wf_emptyStale {s : State} (hs : State.wf s = true) : State.wf { s with stale := [] } = true := by
  obtain ⟨hpc, hmem, -, hcause, htrap⟩ := (State.wf_iff s).1 hs
  exact (State.wf_iff _).2 ⟨hpc, hmem, rfl, hcause, htrap⟩

/-- The value an instruction records fits its exception. -/
theorem trapRecord_wf_of_valueFits {i : Instr} {s : State} {e : Exc} {v : Option Word} (h : ValueFits i s e v)
    (pc : Word) : TrapRecord.wf ⟨e, pc, v⟩ = true := by
  cases e with
  | instructionAddressMisaligned =>
    obtain ⟨-, a, rfl, ha⟩ := h
    exact ha
  | instructionAccessFault => exact h.elim
  | illegalInstruction | breakpoint | environmentCall =>
    obtain rfl : v = _ := h
    rfl
  | loadAddressMisaligned | loadAccessFault | storeAddressMisaligned | storeAccessFault =>
    obtain ⟨a, rfl⟩ := Option.ne_none_iff_exists'.1 h.2
    rfl

/-- Every instruction of a running hart keeps the invariant. -/
theorem Ends.wf {i : Instr} {s t : State} (h : Ends i s t) (hs : State.wf s = true) (hrun : s.trap = none) :
    State.wf t = true := by
  have hwrite (rd : Reg) (v : Word) : State.wf (writeX s rd v) = true := (wf_writeX s rd v).trans hs
  have hrunWrite (rd : Reg) (v : Word) : (writeX s rd v).trap = none := (writeX_trap s rd v).trans hrun
  have haligned {a : Word} (ha : targetMisaligned a = false) : FourAligned a :=
    (fourAligned_iff a).2 ((targetMisaligned_eq_false_iff a).1 ha)
  cases h with
  | traps e v _ fits => exact wf_takeException hs (trapRecord_wf_of_valueFits fits s.pc)
  | writes rd v _ => exact wf_retire (hwrite rd v) (hrunWrite rd v)
  | links rd target _ aligned => exact wf_retireTo (hwrite rd _) (hrunWrite rd _) (haligned aligned)
  | goes target aligned => exact wf_retireTo hs hrun (haligned aligned)
  | falls => exact wf_retire hs hrun
  | stores ea n v _ _ _ => exact wf_retire (wf_storeBytes ea _ hs) ((storeBytes_trap ..).trans hrun)
  | empties _ => exact wf_retire (wf_emptyStale hs) hrun

theorem Steps.wf {s u : State} (h : Steps s u) (hs : State.wf s = true) (hrun : s.trap = none) :
    State.wf u = true := by
  cases h with
  | cannotFetch _ => exact wf_takeException hs (beq_self_eq_true s.pc)
  | noInstruction w e _ _ _ => exact wf_takeException hs rfl
  | executes w i u _ _ executed => exact (exec_cases executed).wf hs hrun

/-- A launch the spec allows starts in a state with the invariant (10_state.md R40). -/
theorem wf_launch {l : Launch} (h : Launch.wf l = true) : State.wf (State.launch l) = true := by
  simp only [Launch.wf, Bool.and_eq_true, decide_eq_true_eq] at h
  obtain ⟨⟨hpc, hmem⟩, hcause⟩ := h
  exact (State.wf_iff _).2 ⟨(fourAligned_iff _).2 hpc, hmem, rfl, hcause, trapTrue_of_running rfl⟩

end Sys2Proof.Machine
end

section
/-! SUPPORT. A word decodes only to a well-formed instruction: one lemma per major opcode. Only the branches, JAL and
the RV64I shifts have something to show (log 27). -/

namespace Sys2Proof

/-- What the decoder answers is a well-formed instruction, if it answers one. -/
def AnswersWf : Except DecodeError Instr → Prop
  | .ok i => i.wf = true
  | .error _ => True

/-- An offset built over a zero bit is even (30_encoding.md R110, R112). -/
theorem offsetEven_append_zero {n : Nat} (a : BitVec n) : offsetEven (a ++ 0#1) = true := by
  simp [offsetEven, BitVec.getElem_append]

theorem offsetEven_offBOf (w : Word) : offsetEven (offBOf w) = true := offsetEven_append_zero (n := 12) _

theorem offsetEven_offJOf (w : Word) : offsetEven (offJOf w) = true := offsetEven_append_zero (n := 20) _

/-- Of the words with given inst[31:26], those that are no RV32I shift have inst[25] = 1 (47_rv64i_listed.md R364). -/
theorem shamt6Of_getLsbD_five {w : Word} {k : BitVec 6} (h6 : funct6Of w = k) (h7 : funct7Of w ≠ k ++ 0#1) :
    (shamt6Of w).getLsbD 5 = true := by
  have hsplit : funct7Of w = funct6Of w ++ w.extractLsb' 25 1 :=
    (BitVec.extractLsb'_append_extractLsb'_eq_extractLsb' (x := w) (start₁ := 25) (len₁ := 1) (len₂ := 6) rfl).symm
  have hbit : w.extractLsb' 25 1 = 1#1 := by
    rcases BitVec.eq_zero_or_eq_one (w.extractLsb' 25 1) with h0 | h1
    · exact absurd (by rw [hsplit, h6, h0]) h7
    · exact h1
  have hget := congrArg (·.getLsbD 0) hbit
  simpa [shamt6Of] using hget

theorem decodeBranch_wf (w : Word) : AnswersWf (decodeBranch w) := by
  have heven := offsetEven_offBOf w
  unfold decodeBranch
  split
  all_goals first | exact heven | exact True.intro

theorem decodeShiftLeft_wf (w : Word) : AnswersWf (decodeShiftLeft w) := by
  unfold decodeShiftLeft
  split
  · rfl
  next h7 =>
    split
    next h6 => exact shamt6Of_getLsbD_five h6 h7
    next => trivial

theorem decodeShiftRight_wf (w : Word) : AnswersWf (decodeShiftRight w) := by
  unfold decodeShiftRight
  split
  · rfl
  next hlogical =>
    split
    · rfl
    next harithmetic =>
      split
      next h6 => exact shamt6Of_getLsbD_five h6 hlogical
      next =>
        split
        next h6 => exact shamt6Of_getLsbD_five h6 harithmetic
        next => trivial

theorem decodeOpImm_wf (w : Word) : AnswersWf (decodeOpImm w) := by
  have hleft := decodeShiftLeft_wf w
  have hright := decodeShiftRight_wf w
  unfold decodeOpImm
  split <;> trivial

/-- The decoder answers only well-formed instructions (30_encoding.md R118): all but JAL, the branches and the RV64I
shifts are so whatever their operands. -/
theorem decode_wf (w : Word) : AnswersWf (decode w) := by
  have hjal : AnswersWf (.ok (.jal (rdOf w) (offJOf w))) := offsetEven_offJOf w
  have hbranch := decodeBranch_wf w
  have hopImm := decodeOpImm_wf w
  dsimp only [decode, decodeJalr, decodeLoad, decodeStore, decodeOp, decodeMiscMem, decodeSystem, decodePriv,
    decodeOpImm32, decodeOp32, decodeAmo, decodeLoadFp, decodeStoreFp, decodeMadd, decodeMsub, decodeNmsub, decodeNmadd,
    decodeOpFp]
  repeat' split
  all_goals trivial

theorem wf_of_decode_ok {w : Word} {i : Instr} (h : decode w = .ok i) : i.wf = true := by
  have hw := decode_wf w
  rwa [h] at hw

end Sys2Proof
end

section
/-! The statements of the state (10_state.md): the invariant, the frame of an instruction, the counters, the step, and
the start of a run. -/

namespace Sys2Proof.Machine

/-! ### The invariant -/

/-- Settles O17: the instruction keeps the invariant, by the way it ends, and the counters are no part of it. -/
theorem everyStepKeepsTheInvariant : Obligations.EveryStepKeepsTheInvariant := by
  intro s t hs h
  obtain ⟨hrun, -, u, hu, rfl⟩ := step_cases h
  rw [wf_betweenSteps]
  exact hu.wf hs hrun

/-- Settles O18. -/
theorem allowedLaunchesHaveTheInvariant : Obligations.AllowedLaunchesHaveTheInvariant := by
  have hreset : Launch.wf Launch.atReset = true := by decide
  refine ⟨wf_launch hreset, fun l => wf_launch, fun s e f hs => ?_⟩
  obtain ⟨-, -, -, hcause, -⟩ := (State.wf_iff s).1 hs
  exact causeOf_inj hcause e f

/-! ### What an instruction leaves as it was -/

/-- Settles O25: the registers are those of the state before, or of one write to the destination. -/
theorem onlyTheDestinationRegisterChanges : Obligations.OnlyTheDestinationRegisterChanges := by
  intro i s t h
  refine ⟨fun q hq => ?_, readX_zero t⟩
  obtain hsame | ⟨rd, v, hd, hsame⟩ := (exec_cases h).registers
  · exact absurd (hsame q) hq
  · rw [hsame q, readX_writeX, ne_eq, ite_eq_right_iff, Classical.not_imp] at hq
    obtain ⟨⟨rfl, h0⟩, -⟩ := hq
    exact ⟨hd, h0⟩

/-- Settles O26. -/
theorem onlyStoresChangeMemory : Obligations.OnlyStoresChangeMemory := by
  intro i s t h hi
  have hends := exec_cases h
  exact ⟨byteAt_congr (hends.mem_eq hi), hends.stale_eq hi⟩

/-- Settles O27. -/
theorem registerZeroReadsZeroAndDiscardsWrites : Obligations.RegisterZeroReadsZeroAndDiscardsWrites := by
  intro s v
  refine ⟨readX_zero s, writeX_zero s v, fun r q hr => ⟨?_, byteAt_writeX s r v, writeX_stale s r v⟩⟩
  simp only [readX_writeX, hr, ne_eq, not_false_eq_true, and_true]

/-! ### Completing, trapping and counting -/

/-- Settles O21. -/
theorem everyInstructionAnswersANextState : Obligations.EveryInstructionAnswersANextState := by
  intro i s hrun
  obtain ⟨t, ht⟩ := answers_exec i s
  refine ⟨t, ht, ?_⟩
  obtain ⟨htrap, -⟩ | ⟨e, v, htrap, hpc, -⟩ := (exec_cases ht).instret_and_trap hrun
  · exact .inl htrap
  · exact .inr ⟨_, htrap, rfl, hpc⟩

/-- Settles O23. -/
theorem instretCountsExactlyTheRetired : Obligations.InstretCountsExactlyTheRetired := by
  intro i s t hrun hmax h
  have hends := exec_cases h
  refine ⟨?_, hends.cycle_eq, hends.time_eq⟩
  obtain ⟨htrap, hinstret⟩ | ⟨e, v, htrap, -, hinstret⟩ := hends.instret_and_trap hrun
  · simp [htrap, hinstret hmax]
  · simp [htrap, hinstret]

/-- Settles O14. -/
theorem betweenStepsOnlyCountersAdvance : Obligations.BetweenStepsOnlyCountersAdvance := by
  intro s
  have hmemory : SameMemory s (betweenSteps s) := ⟨byteAt_betweenSteps s, betweenSteps_stale s⟩
  exact ⟨readX_betweenSteps s, hmemory, betweenSteps_pc s, betweenSteps_trap s, betweenSteps_cfg s,
    cycle_le_betweenSteps s, time_le_betweenSteps s, instret_le_betweenSteps s, instret_betweenSteps_of_quiet,
    instret_betweenSteps_of_trap⟩

/-- Settles O24: the instruction does not lower a counter, and the advance after it does not either. -/
theorem countersNeverDecreaseOverAStep : Obligations.CountersNeverDecreaseOverAStep := by
  intro s t h
  obtain ⟨hrun, -, u, hu, rfl⟩ := step_cases h
  obtain ⟨hcycle, htime, hinstret⟩ := hu.counters hrun
  exact ⟨hcycle ▸ cycle_le_betweenSteps u, htime ▸ time_le_betweenSteps u,
    fun hmax => (hinstret hmax).trans (instret_le_betweenSteps u)⟩

/-- Settles O48: the first read retires once, the environment adds nothing, and the second read sees the sum. -/
theorem consecutiveInstretReadsDifferByOne : Obligations.ConsecutiveInstretReadsDifferByOne := by
  intro s t u rd rd2 hquiet hmax hrd hrd2 ht hu
  have hcsr : csrAt 0xC02#12 = some .instret := rfl
  rw [exec_csrrs_x0 hcsr] at ht hu
  cases ht
  cases hu
  have hquiet' : (retire (writeX s rd (csrRead s .instret))).cfg.envQuiet = true := by simpa using hquiet
  obtain ⟨-, hretired, -⟩ := retires_retire_writeX s rd (csrRead s .instret)
  simp only [readX_retire, readX_writeX_same _ _ hrd, readX_writeX_same _ _ hrd2]
  exact csrRead_instret_of_add_one ((instret_betweenSteps_of_quiet hquiet').trans (hretired hmax))

/-! ### The step -/

/-- Settles O11: the fetched word is the four bytes, it decodes to `i`, and a decoded instruction is well formed. -/
theorem stepRunsTheDecodedInstruction : Obligations.StepRunsTheDecodedInstruction := by
  intro s i hrun ha hlegal hstale hdecode
  have hfresh : staleTouches s s.pc 4 = false := by
    rw [← Bool.not_eq_true, staleTouches_iff]
    rintro ⟨k, hk, hmem⟩
    exact hstale k hk hmem
  have hfetch : fetch s = .word (mem32 s s.pc) :=
    (fetch_eq_word_iff s _).2 ⟨(legalRange_iff ..).2 hlegal, hfresh, rfl⟩
  have hword : decode (mem32 s s.pc) = .ok i := hdecode
  refine ⟨wf_of_decode_ok hword, ?_⟩
  rw [step_of_fetch_word hrun ha hfetch, runWord_of_decode_ok hword]
  cases exec i s <;> rfl

/-- Settles O12. -/
theorem stepOnAWordThatIsNoInstructionTraps : Obligations.StepOnAWordThatIsNoInstructionTraps := by
  intro s w hrun ha hfetch hdecode
  rw [step_of_fetch_word hrun ha hfetch, runWord_of_decode_illegal hdecode]
  rfl

/-! ### The start of a run -/

/-- Settles O19. -/
theorem resetLeavesWhatTheRulesSay : Obligations.ResetLeavesWhatTheRulesSay := by
  have hregisters (r : Reg) : readX State.reset r = 0#32 := by
    simp [readX, State.reset, Launch.atReset]
  have hlegal (k : AccessKind) (a : Word) : legalByte State.reset.cfg k a = true := by
    have ha := a.isLt
    cases k <;> simpa [legalByte, State.reset, Launch.atReset, Config.atReset, Region.everything, regionPermits] using ha
  exact ⟨fun l => ⟨readX_zero _, rfl, rfl, rfl, rfl, rfl, rfl, rfl, rfl, rfl⟩, rfl, hregisters, fun _ => rfl, rfl, rfl,
    rfl, hlegal, rfl, rfl, rfl⟩

end Sys2Proof.Machine
end

section
/-! SUPPORT. Memory accesses from the side of their result: a load that is served and legal, the bytes that a completed
store leaves, and a fetch over legal bytes (20_memory.md R61, R68 to R70, R78). -/

namespace Sys2Proof.Machine

/-! ### The condition for a load to be served (20_memory.md R65, R67) -/

theorem misalignedTraps_eq_false_iff (s : State) (a : Word) (n : Nat) :
    misalignedTraps s.cfg a n = false ↔ AlignmentServed s a n := by
  cases h : s.cfg.misalignedData <;> simp [misalignedTraps, AlignmentServed, h]

theorem alignmentServed_one (s : State) (a : Word) : AlignmentServed s a 1 := .inr (Nat.mod_one _)

theorem loadCheck_eq_none {s : State} {a : Word} {n : Nat} (haligned : AlignmentServed s a n)
    (hlegal : LegalFor s .load a n) : loadCheck s a n = none :=
  (loadCheck_none_iff s a n).2 ⟨(misalignedTraps_eq_false_iff s a n).2 haligned, (legalRange_iff ..).2 hlegal⟩

/-! ### Loads that complete (42_load_store.md R261 to R265) -/

/-- Writing a register and completing changes nothing else. -/
theorem writes_writeAndRetire (s : State) (rd : Reg) (v : Word) : Writes s (writeAndRetire s rd v) rd v := by
  refine ⟨retire (writeX s rd v), writeAndRetire_eq s rd v, fun q => ?_, ⟨byteAt_writeX s rd v, writeX_stale s rd v⟩,
    retires_retire_writeX s rd v⟩
  rw [readX_retire, readX_writeX]
  by_cases hq : q = 0#5
  · subst hq
    by_cases hrd : rd = 0#5 <;> simp [hrd, eq_comm]
  · by_cases hrd : q = rd
    · simp [hrd, hrd ▸ hq]
    · simp [hq, hrd]

theorem writes_loadTo {s : State} {ea : Word} {n : Nat} (rd : Reg) (v : Word) (haligned : AlignmentServed s ea n)
    (hlegal : LegalFor s .load ea n) : Writes s (loadTo s rd ea n v) rd v := by
  rw [loadTo, loadCheck_eq_none haligned hlegal]
  exact writes_writeAndRetire s rd v

section Loads

variable {s : State} (rd : Reg) {rs1 : Reg} {imm : BitVec 12}

theorem writes_exec_lb (hlegal : LegalFor s .load (readX s rs1 + imm.signExtend 32) 1) :
    Writes s (exec (.lb rd rs1 imm) s) rd ((byteAt s (readX s rs1 + imm.signExtend 32)).signExtend 32) :=
  writes_loadTo rd _ (alignmentServed_one s _) hlegal

theorem writes_exec_lbu (hlegal : LegalFor s .load (readX s rs1 + imm.signExtend 32) 1) :
    Writes s (exec (.lbu rd rs1 imm) s) rd ((byteAt s (readX s rs1 + imm.signExtend 32)).setWidth 32) :=
  writes_loadTo rd _ (alignmentServed_one s _) hlegal

theorem writes_exec_lh (haligned : AlignmentServed s (readX s rs1 + imm.signExtend 32) 2)
    (hlegal : LegalFor s .load (readX s rs1 + imm.signExtend 32) 2) :
    Writes s (exec (.lh rd rs1 imm) s) rd ((mem16 s (readX s rs1 + imm.signExtend 32)).signExtend 32) :=
  writes_loadTo rd _ haligned hlegal

theorem writes_exec_lhu (haligned : AlignmentServed s (readX s rs1 + imm.signExtend 32) 2)
    (hlegal : LegalFor s .load (readX s rs1 + imm.signExtend 32) 2) :
    Writes s (exec (.lhu rd rs1 imm) s) rd ((mem16 s (readX s rs1 + imm.signExtend 32)).setWidth 32) :=
  writes_loadTo rd _ haligned hlegal

theorem writes_exec_lw (haligned : AlignmentServed s (readX s rs1 + imm.signExtend 32) 4)
    (hlegal : LegalFor s .load (readX s rs1 + imm.signExtend 32) 4) :
    Writes s (exec (.lw rd rs1 imm) s) rd (mem32 s (readX s rs1 + imm.signExtend 32)) :=
  writes_loadTo rd _ haligned hlegal

end Loads

/-! ### A word in memory, read at any width (20_memory.md R61) -/

/-- The four bytes from `a` on are those of `v`, least significant first. -/
def HoldsWord (t : State) (a v : Word) : Prop :=
  ∀ i, i < 4 → byteAt t (a + BitVec.ofNat 32 i) = v.extractLsb' (8 * i) 8

theorem add_ofNat_add (a : Word) (i j : Nat) :
    a + BitVec.ofNat 32 i + BitVec.ofNat 32 j = a + BitVec.ofNat 32 (i + j) := by
  rw [BitVec.add_assoc, ← BitVec.ofNat_add]

theorem HoldsWord.mem16_eq {t : State} {a v : Word} (h : HoldsWord t a v) {i : Nat} (hi : i < 3) :
    mem16 t (a + BitVec.ofNat 32 i) = v.extractLsb' (8 * i) 16 := by
  rw [mem16, add_ofNat_add a i 1, h (i + 1) (by omega), h i (by omega)]
  exact BitVec.extractLsb'_append_extractLsb'_eq_extractLsb' (by omega)

/-- A word is two halfwords. -/
theorem mem32_eq_append_mem16 (t : State) (a : Word) : mem32 t a = mem16 t (a + 2#32) ++ mem16 t a := by
  rw [mem16, mem16, BitVec.add_assoc]
  exact BitVec.append_assoc

theorem HoldsWord.mem32_eq {t : State} {a v : Word} (h : HoldsWord t a v) : mem32 t a = v := by
  have hlow : mem16 t a = v.extractLsb' 0 16 := by simpa using h.mem16_eq (i := 0) (by omega)
  have hhigh : mem16 t (a + 2#32) = v.extractLsb' 16 16 := h.mem16_eq (i := 2) (by omega)
  have hjoin : v.extractLsb' 16 16 ++ v.extractLsb' 0 16 = v.extractLsb' 0 32 :=
    BitVec.extractLsb'_append_extractLsb'_eq_extractLsb' rfl
  rw [mem32_eq_append_mem16, hlow, hhigh, hjoin, BitVec.extractLsb'_eq_self]

/-! ### Stores that complete (20_memory.md R69, 42_load_store.md R266 to R268) -/

theorem length_storedBytes (v : Word) {n : Nat} (hn : n ≤ 4) : (storedBytes v n).length = n := by
  simp [storedBytes, wordBytes, hn]

/-- The bytes of the value, least significant first. -/
theorem getElem_storedBytes (v : Word) {n i : Nat} (hi : i < (storedBytes v n).length) :
    (storedBytes v n)[i] = v.extractLsb' (8 * i) 8 := by
  have hbound : i < 4 := lt_of_lt_of_le hi (by simp [storedBytes, wordBytes])
  simp only [storedBytes, List.getElem_take]
  match i, hbound with
  | 0, _ | 1, _ | 2, _ | 3, _ => rfl

/-- After storing all four bytes of a word, memory holds the word. -/
theorem holdsWord_retire_storeBytes (s : State) (ea v : Word) :
    HoldsWord (retire (storeBytes s ea (storedBytes v 4))) ea v := by
  have hlength : (storedBytes v 4).length = 4 := length_storedBytes v le_rfl
  intro i hi
  rw [byteAt_retire, byteAt_storeBytes_inside s ea (storedBytes v 4) i (by omega) (by omega), getElem_storedBytes]

theorem storeWidth_le_four (i : Instr) : storeWidth i ≤ 4 := by
  unfold storeWidth
  split <;> decide

/-- A store that raises nothing stores its bytes and retires. -/
theorem storeFrom_completes {s t : State} {ea : Word} {n : Nat} {v : Word} (h : storeFrom s ea n v = .next t)
    (ht : t.trap = none) : t = retire (storeBytes s ea (storedBytes v n)) := by
  obtain ⟨r, -, rfl⟩ | ⟨-, ht⟩ := storeFrom_cases h
  · cases ht
  · exact ht

theorem exec_sw (rs1 rs2 : Reg) (imm : BitVec 12) (s : State) :
    exec (.sw rs1 rs2 imm) s = storeFrom s (readX s rs1 + imm.signExtend 32) 4 (readX s rs2) := rfl

/-- A store that raises nothing leaves the low bytes of some value at its effective address. -/
theorem exec_store_completes {i : Instr} {s t : State} {ea : Word} (hi : isStore i = true)
    (hea : accessAddress i s = some ea) (h : exec i s = .next t) (ht : t.trap = none) :
    ∃ v, t = retire (storeBytes s ea (storedBytes v (storeWidth i))) := by
  cases i with
  | sb | sh | sw =>
    cases hea
    exact ⟨_, storeFrom_completes h ht⟩
  | _ => cases hi

/-- Every stored byte joins `stale`. -/
theorem mem_stale_of_store_completes {i : Instr} {s t : State} {ea : Word} (hi : isStore i = true)
    (hea : accessAddress i s = some ea) (h : exec i s = .next t) (ht : t.trap = none) {k : Nat}
    (hk : k < storeWidth i) : (ea + BitVec.ofNat 32 k).toNat ∈ t.stale := by
  obtain ⟨v, rfl⟩ := exec_store_completes hi hea h ht
  refine (mem_stale_storeBytes ..).2 (.inr ⟨k, ?_, rfl⟩)
  rwa [length_storedBytes v (storeWidth_le_four i)]

/-! ### FENCE and FENCE.I (43_fence.md R280, R281) -/

theorem exec_fence (pred succ : BitVec 4) (s : State) : exec (.fence pred succ) s = .next (retire s) := rfl

theorem exec_fenceI (s : State) : exec .fenceI s = .next (retire { s with stale := [] }) := rfl

/-! ### A fetch over its four bytes (20_memory.md R70) -/

theorem fetch_eq_accessFault {s : State} (hlegal : ¬LegalFor s .fetch s.pc 4) : fetch s = .accessFault := by
  rw [fetch, if_neg (fun h => hlegal ((legalRange_iff ..).1 h))]

theorem fetch_eq_stale {s : State} (hlegal : LegalFor s .fetch s.pc 4)
    (hstale : ∃ k, k < 4 ∧ (s.pc + BitVec.ofNat 32 k).toNat ∈ s.stale) : fetch s = .stale :=
  (fetch_eq_stale_iff s).2 ⟨(legalRange_iff ..).2 hlegal, (staleTouches_iff ..).2 hstale⟩

theorem fetch_eq_word {s : State} (hlegal : LegalFor s .fetch s.pc 4)
    (hfresh : ∀ k, k < 4 → (s.pc + BitVec.ofNat 32 k).toNat ∉ s.stale) : fetch s = .word (mem32 s s.pc) := by
  refine (fetch_eq_word_iff s _).2 ⟨(legalRange_iff ..).2 hlegal, ?_, rfl⟩
  rw [← Bool.not_eq_true, staleTouches_iff]
  rintro ⟨k, hk, hmem⟩
  exact hfresh k hk hmem

theorem fetch_ne_stale_of_stale_nil {s : State} (h : s.stale = []) : fetch s ≠ .stale := by
  intro hf
  obtain ⟨k, -, hmem⟩ := (staleTouches_iff ..).1 ((fetch_eq_stale_iff s).1 hf).2
  simp [h] at hmem

/-- A running hart whose fetch faults traps at its pc. -/
theorem step_of_fetch_accessFault {s : State} (hrun : s.trap = none) (ha : FourAligned s.pc)
    (hf : fetch s = .accessFault) :
    step s = .next (betweenSteps (takeException s .instructionAccessFault (some s.pc))) := by
  rw [step_of_running hrun, runInstruction, if_pos ((fourAligned_iff s.pc).1 ha), hf]
  rfl

/-- A running hart whose fetch is stale is refused. -/
theorem step_of_fetch_stale {s : State} (hrun : s.trap = none) (ha : FourAligned s.pc) (hf : fetch s = .stale) :
    step s = .refused (.staleFetch s.pc) := by
  rw [step_of_running hrun, runInstruction, if_pos ((fourAligned_iff s.pc).1 ha), hf]

/-- Taking an exception changes nothing but the trap outcome (60_exceptions.md R510). -/
theorem traps_takeException (s : State) (e : Exc) (v : Option Word) : Traps s (.next (takeException s e v)) e v :=
  ⟨_, rfl, rfl, fun _ => rfl, ⟨fun _ => rfl, rfl⟩, rfl, rfl, rfl, rfl, rfl, rfl⟩

end Sys2Proof.Machine
end

section
/-! The statements of memory (20_memory.md): the order of the checks of a fetch, and what loads and fetches see of the
bytes a store has left. -/

namespace Sys2Proof.Machine

/-- Settles O13. -/
theorem fetchChecksLegalityThenStaleness : Obligations.FetchChecksLegalityThenStaleness := by
  intro s hrun ha
  refine ⟨fun hillegal => ⟨traps_takeException .., ?_⟩, fun hlegal hstale => ?_, fetch_eq_word⟩
  · exact step_of_fetch_accessFault hrun ha (fetch_eq_accessFault hillegal)
  · exact step_of_fetch_stale hrun ha (fetch_eq_stale hlegal hstale)

/-- Settles O42: the store leaves its word in memory, and each load completes with what it reads there. -/
theorem loadAfterStoreSeesTheStoredBytes : Obligations.LoadAfterStoreSeesTheStoredBytes := by
  intro s t rs1 rs2 imm _ hexec ht
  have hword : HoldsWord t (readX s rs1 + imm.signExtend 32) (readX s rs2) := by
    rw [exec_sw] at hexec
    rw [storeFrom_completes hexec ht]
    exact holdsWord_retire_storeBytes s _ _
  refine ⟨hword.mem32_eq, hword, fun i => hword.mem16_eq, fun rd base off i hea => ⟨?_, ?_, ?_⟩⟩
  · intro hi hlegal
    rw [← hword i hi, ← hea]
    exact ⟨writes_exec_lb rd hlegal, writes_exec_lbu rd hlegal⟩
  · intro hi haligned hlegal
    rw [← hword.mem16_eq hi, ← hea]
    exact ⟨writes_exec_lh rd haligned hlegal, writes_exec_lhu rd haligned hlegal⟩
  · rintro rfl haligned hlegal
    have hsame : readX t base + off.signExtend 32 = readX s rs1 + imm.signExtend 32 := by simpa using hea
    rw [← hword.mem32_eq, ← hsame]
    exact writes_exec_lw rd haligned hlegal

/-- Settles O45: the stored bytes are stale, FENCE keeps `stale` and FENCE.I empties it. -/
theorem storedBytesAreFetchableOnlyAfterFenceI : Obligations.StoredBytesAreFetchableOnlyAfterFenceI := by
  intro s t i ea hi hea _ hexec ht
  have hstale (k : Nat) (hk : k < storeWidth i) : (ea + BitVec.ofNat 32 k).toNat ∈ t.stale :=
    mem_stale_of_store_completes hi hea hexec ht hk
  refine ⟨hstale, fun pred succ => ⟨_, exec_fence pred succ t, rfl⟩, ?_,
    ⟨_, exec_fenceI t, fun target => fetch_ne_stale_of_stale_nil rfl⟩⟩
  intro u hu target k j hk hj heq hlegal
  have hkept : u.trap = none ∧ u.stale = t.stale := by
    obtain rfl | ⟨pred, succ, hu⟩ := hu
    · exact ⟨ht, rfl⟩
    · cases hu
      exact ⟨ht, rfl⟩
  obtain ⟨hrun, hkeptStale⟩ := hkept
  have hfetch : fetch { u with pc := target } = .stale := by
    refine fetch_eq_stale hlegal ⟨j, hj, ?_⟩
    rw [heq, hkeptStale]
    exact hstale k hk
  exact ⟨hfetch, fun ha => step_of_fetch_stale hrun ha hfetch⟩

end Sys2Proof.Machine
end

section
/-! SUPPORT. A word is built, in every format, from the fields the accessors read off it: the converse of
the field lemmas of Laws/Encoding.lean. -/

namespace Sys2Proof

/-! ### A word from all its fields -/

/-- No bit of a word is outside the fields of its format (30_encoding.md R102 to R117). -/
theorem encR_fields (w : Word) :
    encR (funct7Of w) (rs2Of w) (rs1Of w) (funct3Of w) (rdOf w) (opcodeOf w) = w := by
  apply BitVec.eq_of_getLsbD_eq
  intro i hi
  simp only [Laws.getLsbD_encR, funct7Of, rs2Of, rs1Of, funct3Of, rdOf, opcodeOf, BitVec.getLsbD_extractLsb']
  grind

theorem encI_fields (w : Word) : encI (immIOf w) (rs1Of w) (funct3Of w) (rdOf w) (opcodeOf w) = w := by
  apply BitVec.eq_of_getLsbD_eq
  intro i hi
  simp only [Laws.getLsbD_encI, immIOf, rs1Of, funct3Of, rdOf, opcodeOf, BitVec.getLsbD_extractLsb']
  grind

theorem encU_fields (w : Word) : encU (immUOf w) (rdOf w) (opcodeOf w) = w := by
  apply BitVec.eq_of_getLsbD_eq
  intro i hi
  simp only [Laws.getLsbD_encU, immUOf, rdOf, opcodeOf, BitVec.getLsbD_extractLsb']
  grind

theorem encShift6_fields (w : Word) :
    encShift6 (funct6Of w) (shamt6Of w) (rs1Of w) (funct3Of w) (rdOf w) (opcodeOf w) = w := by
  apply BitVec.eq_of_getLsbD_eq
  intro i hi
  simp only [Laws.getLsbD_encShift6, funct6Of, shamt6Of, rs1Of, funct3Of, rdOf, opcodeOf, BitVec.getLsbD_extractLsb']
  grind

theorem encAmo_fields (w : Word) :
    encAmo (funct5Of w) (aqOf w) (rlOf w) (rs2Of w) (rs1Of w) (funct3Of w) (rdOf w) (opcodeOf w) = w := by
  apply BitVec.eq_of_getLsbD_eq
  intro i hi
  simp only [Laws.getLsbD_encAmo, funct5Of, aqOf, rlOf, rs2Of, rs1Of, funct3Of, rdOf, opcodeOf,
    BitVec.getLsbD_extractLsb']
  grind

theorem encR4_fields (w : Word) :
    encR4 (rs3Of w) (funct2Of w) (rs2Of w) (rs1Of w) (funct3Of w) (rdOf w) (opcodeOf w) = w := by
  apply BitVec.eq_of_getLsbD_eq
  intro i hi
  simp only [Laws.getLsbD_encR4, rs3Of, funct2Of, rs2Of, rs1Of, funct3Of, rdOf, opcodeOf, BitVec.getLsbD_extractLsb']
  grind

theorem encS_fields (w : Word) : encS (immSOf w) (rs2Of w) (rs1Of w) (funct3Of w) (opcodeOf w) = w := by
  apply BitVec.eq_of_getLsbD_eq
  intro i hi
  simp only [Laws.getLsbD_encS, immSOf, rs2Of, rs1Of, funct3Of, opcodeOf, BitVec.getLsbD_extractLsb',
    BitVec.getLsbD_append]
  grind

theorem encB_fields (w : Word) : encB (offBOf w) (rs2Of w) (rs1Of w) (funct3Of w) (opcodeOf w) = w := by
  apply BitVec.eq_of_getLsbD_eq
  intro i hi
  simp only [Laws.getLsbD_encB, offBOf, rs2Of, rs1Of, funct3Of, opcodeOf, BitVec.getLsbD_extractLsb',
    BitVec.getLsbD_append]
  grind

theorem encJ_fields (w : Word) : encJ (offJOf w) (rdOf w) (opcodeOf w) = w := by
  apply BitVec.eq_of_getLsbD_eq
  intro i hi
  simp only [Laws.getLsbD_encJ, offJOf, rdOf, opcodeOf, BitVec.getLsbD_extractLsb', BitVec.getLsbD_append]
  grind

/-! ### A word of a format is built from its fields -/

section OfFields

variable {w : Word} {op : BitVec 7} {f3 : BitVec 3}

theorem encR_of_fields {f7 : BitVec 7} (h7 : funct7Of w = f7) (h3 : funct3Of w = f3) (hop : opcodeOf w = op) :
    encR f7 (rs2Of w) (rs1Of w) f3 (rdOf w) op = w := by
  rw [← h7, ← h3, ← hop, encR_fields]

theorem encI_of_fields (h3 : funct3Of w = f3) (hop : opcodeOf w = op) :
    encI (immIOf w) (rs1Of w) f3 (rdOf w) op = w := by
  rw [← h3, ← hop, encI_fields]

theorem encShift6_of_fields {f6 : BitVec 6} (h6 : funct6Of w = f6) (h3 : funct3Of w = f3) (hop : opcodeOf w = op) :
    encShift6 f6 (shamt6Of w) (rs1Of w) f3 (rdOf w) op = w := by
  rw [← h6, ← h3, ← hop, encShift6_fields]

theorem encS_of_fields (h3 : funct3Of w = f3) (hop : opcodeOf w = op) :
    encS (immSOf w) (rs2Of w) (rs1Of w) f3 op = w := by
  rw [← h3, ← hop, encS_fields]

theorem encB_of_fields (h3 : funct3Of w = f3) (hop : opcodeOf w = op) :
    encB (offBOf w) (rs2Of w) (rs1Of w) f3 op = w := by
  rw [← h3, ← hop, encB_fields]

theorem encU_of_fields (hop : opcodeOf w = op) : encU (immUOf w) (rdOf w) op = w := by
  rw [← hop, encU_fields]

theorem encJ_of_fields (hop : opcodeOf w = op) : encJ (offJOf w) (rdOf w) op = w := by
  rw [← hop, encJ_fields]

theorem encR4_of_fields {f2 : BitVec 2} (h2 : funct2Of w = f2) (hop : opcodeOf w = op) :
    encR4 (rs3Of w) f2 (rs2Of w) (rs1Of w) (funct3Of w) (rdOf w) op = w := by
  rw [← h2, ← hop, encR4_fields]

/-- A word with no variable bit outside inst[31:20]. -/
theorem encI_of_fixed {imm : BitVec 12} {rs1 rd : Reg} (himm : immIOf w = imm) (hrs1 : rs1Of w = rs1)
    (hrd : rdOf w = rd) (h3 : funct3Of w = f3) (hop : opcodeOf w = op) : encI imm rs1 f3 rd op = w := by
  rw [← himm, ← hrs1, ← hrd, encI_of_fields h3 hop]

/-- inst[31:20] of a FENCE (30_encoding.md R115). -/
theorem immIOf_eq_fence_fields (w : Word) : immIOf w = fenceTopOf w ++ predOf w ++ succOf w := by
  apply BitVec.eq_of_getLsbD_eq
  intro i hi
  simp only [immIOf, fenceTopOf, predOf, succOf, BitVec.getLsbD_extractLsb', BitVec.getLsbD_append]
  grind

/-- The FENCE form is an I-type word (R115). -/
theorem encFence_eq_encI (pred succ : BitVec 4) :
    encFence pred succ = encI (0b0000#4 ++ pred ++ succ) 0b00000#5 0b000#3 0b00000#5 0b0001111#7 := rfl

theorem encFence_of_fields (htop : fenceTopOf w = 0b0000#4) (hrs1 : rs1Of w = 0b00000#5) (hrd : rdOf w = 0b00000#5)
    (h3 : funct3Of w = 0b000#3) (hop : opcodeOf w = 0b0001111#7) : encFence (predOf w) (succOf w) = w := by
  rw [encFence_eq_encI, ← htop, ← immIOf_eq_fence_fields]
  exact encI_of_fixed rfl hrs1 hrd h3 hop

theorem exists_encR (hop : opcodeOf w = op) : ∃ f7 rs2 rs1 f3 rd, w = encR f7 rs2 rs1 f3 rd op :=
  ⟨_, _, _, _, _, (encR_of_fields rfl rfl hop).symm⟩

theorem exists_encAmo (hop : opcodeOf w = op) : ∃ f5 aq rl rs2 rs1 f3 rd, w = encAmo f5 aq rl rs2 rs1 f3 rd op :=
  ⟨_, _, _, _, _, _, _, hop ▸ (encAmo_fields w).symm⟩

end OfFields

end Sys2Proof
end

section
/-! SUPPORT. The decoder and the encoder undo each other: `decode_encode` from the family DecodeEncode, and
`encode_of_decode_ok` from one lemma per major opcode. -/

namespace Sys2Proof

/-- Decoding the encoding of a well-formed instruction gives the instruction: one lemma of the family per row. -/
theorem decode_encode : ∀ i : Instr, i.wf = true → decode (encode i) = .ok i
  | .lui rd imm => Laws.DecodeEncode.lui rd imm
  | .auipc rd imm => Laws.DecodeEncode.auipc rd imm
  | .jal rd off => Laws.DecodeEncode.jal rd off
  | .jalr rd rs1 imm => Laws.DecodeEncode.jalr rd rs1 imm
  | .beq rs1 rs2 off => Laws.DecodeEncode.beq rs1 rs2 off
  | .bne rs1 rs2 off => Laws.DecodeEncode.bne rs1 rs2 off
  | .blt rs1 rs2 off => Laws.DecodeEncode.blt rs1 rs2 off
  | .bge rs1 rs2 off => Laws.DecodeEncode.bge rs1 rs2 off
  | .bltu rs1 rs2 off => Laws.DecodeEncode.bltu rs1 rs2 off
  | .bgeu rs1 rs2 off => Laws.DecodeEncode.bgeu rs1 rs2 off
  | .lb rd rs1 imm => Laws.DecodeEncode.lb rd rs1 imm
  | .lh rd rs1 imm => Laws.DecodeEncode.lh rd rs1 imm
  | .lw rd rs1 imm => Laws.DecodeEncode.lw rd rs1 imm
  | .lbu rd rs1 imm => Laws.DecodeEncode.lbu rd rs1 imm
  | .lhu rd rs1 imm => Laws.DecodeEncode.lhu rd rs1 imm
  | .sb rs1 rs2 imm => Laws.DecodeEncode.sb rs1 rs2 imm
  | .sh rs1 rs2 imm => Laws.DecodeEncode.sh rs1 rs2 imm
  | .sw rs1 rs2 imm => Laws.DecodeEncode.sw rs1 rs2 imm
  | .addi rd rs1 imm => Laws.DecodeEncode.addi rd rs1 imm
  | .slti rd rs1 imm => Laws.DecodeEncode.slti rd rs1 imm
  | .sltiu rd rs1 imm => Laws.DecodeEncode.sltiu rd rs1 imm
  | .xori rd rs1 imm => Laws.DecodeEncode.xori rd rs1 imm
  | .ori rd rs1 imm => Laws.DecodeEncode.ori rd rs1 imm
  | .andi rd rs1 imm => Laws.DecodeEncode.andi rd rs1 imm
  | .slli rd rs1 shamt => Laws.DecodeEncode.slli rd rs1 shamt
  | .srli rd rs1 shamt => Laws.DecodeEncode.srli rd rs1 shamt
  | .srai rd rs1 shamt => Laws.DecodeEncode.srai rd rs1 shamt
  | .add rd rs1 rs2 => Laws.DecodeEncode.add rd rs1 rs2
  | .sub rd rs1 rs2 => Laws.DecodeEncode.sub rd rs1 rs2
  | .sll rd rs1 rs2 => Laws.DecodeEncode.sll rd rs1 rs2
  | .slt rd rs1 rs2 => Laws.DecodeEncode.slt rd rs1 rs2
  | .sltu rd rs1 rs2 => Laws.DecodeEncode.sltu rd rs1 rs2
  | .xor rd rs1 rs2 => Laws.DecodeEncode.xor rd rs1 rs2
  | .srl rd rs1 rs2 => Laws.DecodeEncode.srl rd rs1 rs2
  | .sra rd rs1 rs2 => Laws.DecodeEncode.sra rd rs1 rs2
  | .or rd rs1 rs2 => Laws.DecodeEncode.or rd rs1 rs2
  | .and rd rs1 rs2 => Laws.DecodeEncode.and rd rs1 rs2
  | .fence pred succ => Laws.DecodeEncode.fence pred succ
  | .fenceI => Laws.DecodeEncode.fenceI
  | .ecall => Laws.DecodeEncode.ecall
  | .ebreak => Laws.DecodeEncode.ebreak
  | .csrrw rd csr rs1 => Laws.DecodeEncode.csrrw rd csr rs1
  | .csrrs rd csr rs1 => Laws.DecodeEncode.csrrs rd csr rs1
  | .csrrc rd csr rs1 => Laws.DecodeEncode.csrrc rd csr rs1
  | .csrrwi rd csr uimm => Laws.DecodeEncode.csrrwi rd csr uimm
  | .csrrsi rd csr uimm => Laws.DecodeEncode.csrrsi rd csr uimm
  | .csrrci rd csr uimm => Laws.DecodeEncode.csrrci rd csr uimm
  | .mul rd rs1 rs2 => Laws.DecodeEncode.mul rd rs1 rs2
  | .mulh rd rs1 rs2 => Laws.DecodeEncode.mulh rd rs1 rs2
  | .mulhsu rd rs1 rs2 => Laws.DecodeEncode.mulhsu rd rs1 rs2
  | .mulhu rd rs1 rs2 => Laws.DecodeEncode.mulhu rd rs1 rs2
  | .div rd rs1 rs2 => Laws.DecodeEncode.div rd rs1 rs2
  | .divu rd rs1 rs2 => Laws.DecodeEncode.divu rd rs1 rs2
  | .rem rd rs1 rs2 => Laws.DecodeEncode.rem rd rs1 rs2
  | .remu rd rs1 rs2 => Laws.DecodeEncode.remu rd rs1 rs2
  | .lwu rd rs1 imm => Laws.DecodeEncode.lwu rd rs1 imm
  | .ld rd rs1 imm => Laws.DecodeEncode.ld rd rs1 imm
  | .sd rs1 rs2 imm => Laws.DecodeEncode.sd rs1 rs2 imm
  | .slliRv64 rd rs1 shamt => Laws.DecodeEncode.slliRv64 rd rs1 shamt
  | .srliRv64 rd rs1 shamt => Laws.DecodeEncode.srliRv64 rd rs1 shamt
  | .sraiRv64 rd rs1 shamt => Laws.DecodeEncode.sraiRv64 rd rs1 shamt
  | .addiw rd rs1 imm => Laws.DecodeEncode.addiw rd rs1 imm
  | .slliw rd rs1 shamt => Laws.DecodeEncode.slliw rd rs1 shamt
  | .srliw rd rs1 shamt => Laws.DecodeEncode.srliw rd rs1 shamt
  | .sraiw rd rs1 shamt => Laws.DecodeEncode.sraiw rd rs1 shamt
  | .addw rd rs1 rs2 => Laws.DecodeEncode.addw rd rs1 rs2
  | .subw rd rs1 rs2 => Laws.DecodeEncode.subw rd rs1 rs2
  | .sllw rd rs1 rs2 => Laws.DecodeEncode.sllw rd rs1 rs2
  | .srlw rd rs1 rs2 => Laws.DecodeEncode.srlw rd rs1 rs2
  | .sraw rd rs1 rs2 => Laws.DecodeEncode.sraw rd rs1 rs2
  | .mulw rd rs1 rs2 => Laws.DecodeEncode.mulw rd rs1 rs2
  | .divw rd rs1 rs2 => Laws.DecodeEncode.divw rd rs1 rs2
  | .divuw rd rs1 rs2 => Laws.DecodeEncode.divuw rd rs1 rs2
  | .remw rd rs1 rs2 => Laws.DecodeEncode.remw rd rs1 rs2
  | .remuw rd rs1 rs2 => Laws.DecodeEncode.remuw rd rs1 rs2
  | .lrW rd rs1 aq rl => Laws.DecodeEncode.lrW rd rs1 aq rl
  | .scW rd rs1 rs2 aq rl => Laws.DecodeEncode.scW rd rs1 rs2 aq rl
  | .amoswapW rd rs1 rs2 aq rl => Laws.DecodeEncode.amoswapW rd rs1 rs2 aq rl
  | .amoaddW rd rs1 rs2 aq rl => Laws.DecodeEncode.amoaddW rd rs1 rs2 aq rl
  | .amoxorW rd rs1 rs2 aq rl => Laws.DecodeEncode.amoxorW rd rs1 rs2 aq rl
  | .amoandW rd rs1 rs2 aq rl => Laws.DecodeEncode.amoandW rd rs1 rs2 aq rl
  | .amoorW rd rs1 rs2 aq rl => Laws.DecodeEncode.amoorW rd rs1 rs2 aq rl
  | .amominW rd rs1 rs2 aq rl => Laws.DecodeEncode.amominW rd rs1 rs2 aq rl
  | .amomaxW rd rs1 rs2 aq rl => Laws.DecodeEncode.amomaxW rd rs1 rs2 aq rl
  | .amominuW rd rs1 rs2 aq rl => Laws.DecodeEncode.amominuW rd rs1 rs2 aq rl
  | .amomaxuW rd rs1 rs2 aq rl => Laws.DecodeEncode.amomaxuW rd rs1 rs2 aq rl
  | .lrD rd rs1 aq rl => Laws.DecodeEncode.lrD rd rs1 aq rl
  | .scD rd rs1 rs2 aq rl => Laws.DecodeEncode.scD rd rs1 rs2 aq rl
  | .amoswapD rd rs1 rs2 aq rl => Laws.DecodeEncode.amoswapD rd rs1 rs2 aq rl
  | .amoaddD rd rs1 rs2 aq rl => Laws.DecodeEncode.amoaddD rd rs1 rs2 aq rl
  | .amoxorD rd rs1 rs2 aq rl => Laws.DecodeEncode.amoxorD rd rs1 rs2 aq rl
  | .amoandD rd rs1 rs2 aq rl => Laws.DecodeEncode.amoandD rd rs1 rs2 aq rl
  | .amoorD rd rs1 rs2 aq rl => Laws.DecodeEncode.amoorD rd rs1 rs2 aq rl
  | .amominD rd rs1 rs2 aq rl => Laws.DecodeEncode.amominD rd rs1 rs2 aq rl
  | .amomaxD rd rs1 rs2 aq rl => Laws.DecodeEncode.amomaxD rd rs1 rs2 aq rl
  | .amominuD rd rs1 rs2 aq rl => Laws.DecodeEncode.amominuD rd rs1 rs2 aq rl
  | .amomaxuD rd rs1 rs2 aq rl => Laws.DecodeEncode.amomaxuD rd rs1 rs2 aq rl
  | .flw rd rs1 imm => Laws.DecodeEncode.flw rd rs1 imm
  | .fsw rs1 rs2 imm => Laws.DecodeEncode.fsw rs1 rs2 imm
  | .fmaddS rd rs1 rs2 rs3 rm => Laws.DecodeEncode.fmaddS rd rs1 rs2 rs3 rm
  | .fmsubS rd rs1 rs2 rs3 rm => Laws.DecodeEncode.fmsubS rd rs1 rs2 rs3 rm
  | .fnmsubS rd rs1 rs2 rs3 rm => Laws.DecodeEncode.fnmsubS rd rs1 rs2 rs3 rm
  | .fnmaddS rd rs1 rs2 rs3 rm => Laws.DecodeEncode.fnmaddS rd rs1 rs2 rs3 rm
  | .faddS rd rs1 rs2 rm => Laws.DecodeEncode.faddS rd rs1 rs2 rm
  | .fsubS rd rs1 rs2 rm => Laws.DecodeEncode.fsubS rd rs1 rs2 rm
  | .fmulS rd rs1 rs2 rm => Laws.DecodeEncode.fmulS rd rs1 rs2 rm
  | .fdivS rd rs1 rs2 rm => Laws.DecodeEncode.fdivS rd rs1 rs2 rm
  | .fsqrtS rd rs1 rm => Laws.DecodeEncode.fsqrtS rd rs1 rm
  | .fsgnjS rd rs1 rs2 => Laws.DecodeEncode.fsgnjS rd rs1 rs2
  | .fsgnjnS rd rs1 rs2 => Laws.DecodeEncode.fsgnjnS rd rs1 rs2
  | .fsgnjxS rd rs1 rs2 => Laws.DecodeEncode.fsgnjxS rd rs1 rs2
  | .fminS rd rs1 rs2 => Laws.DecodeEncode.fminS rd rs1 rs2
  | .fmaxS rd rs1 rs2 => Laws.DecodeEncode.fmaxS rd rs1 rs2
  | .fcvtWS rd rs1 rm => Laws.DecodeEncode.fcvtWS rd rs1 rm
  | .fcvtWuS rd rs1 rm => Laws.DecodeEncode.fcvtWuS rd rs1 rm
  | .fmvXW rd rs1 => Laws.DecodeEncode.fmvXW rd rs1
  | .feqS rd rs1 rs2 => Laws.DecodeEncode.feqS rd rs1 rs2
  | .fltS rd rs1 rs2 => Laws.DecodeEncode.fltS rd rs1 rs2
  | .fleS rd rs1 rs2 => Laws.DecodeEncode.fleS rd rs1 rs2
  | .fclassS rd rs1 => Laws.DecodeEncode.fclassS rd rs1
  | .fcvtSW rd rs1 rm => Laws.DecodeEncode.fcvtSW rd rs1 rm
  | .fcvtSWu rd rs1 rm => Laws.DecodeEncode.fcvtSWu rd rs1 rm
  | .fmvWX rd rs1 => Laws.DecodeEncode.fmvWX rd rs1
  | .fcvtLS rd rs1 rm => Laws.DecodeEncode.fcvtLS rd rs1 rm
  | .fcvtLuS rd rs1 rm => Laws.DecodeEncode.fcvtLuS rd rs1 rm
  | .fcvtSL rd rs1 rm => Laws.DecodeEncode.fcvtSL rd rs1 rm
  | .fcvtSLu rd rs1 rm => Laws.DecodeEncode.fcvtSLu rd rs1 rm
  | .fld rd rs1 imm => Laws.DecodeEncode.fld rd rs1 imm
  | .fsd rs1 rs2 imm => Laws.DecodeEncode.fsd rs1 rs2 imm
  | .fmaddD rd rs1 rs2 rs3 rm => Laws.DecodeEncode.fmaddD rd rs1 rs2 rs3 rm
  | .fmsubD rd rs1 rs2 rs3 rm => Laws.DecodeEncode.fmsubD rd rs1 rs2 rs3 rm
  | .fnmsubD rd rs1 rs2 rs3 rm => Laws.DecodeEncode.fnmsubD rd rs1 rs2 rs3 rm
  | .fnmaddD rd rs1 rs2 rs3 rm => Laws.DecodeEncode.fnmaddD rd rs1 rs2 rs3 rm
  | .faddD rd rs1 rs2 rm => Laws.DecodeEncode.faddD rd rs1 rs2 rm
  | .fsubD rd rs1 rs2 rm => Laws.DecodeEncode.fsubD rd rs1 rs2 rm
  | .fmulD rd rs1 rs2 rm => Laws.DecodeEncode.fmulD rd rs1 rs2 rm
  | .fdivD rd rs1 rs2 rm => Laws.DecodeEncode.fdivD rd rs1 rs2 rm
  | .fsqrtD rd rs1 rm => Laws.DecodeEncode.fsqrtD rd rs1 rm
  | .fsgnjD rd rs1 rs2 => Laws.DecodeEncode.fsgnjD rd rs1 rs2
  | .fsgnjnD rd rs1 rs2 => Laws.DecodeEncode.fsgnjnD rd rs1 rs2
  | .fsgnjxD rd rs1 rs2 => Laws.DecodeEncode.fsgnjxD rd rs1 rs2
  | .fminD rd rs1 rs2 => Laws.DecodeEncode.fminD rd rs1 rs2
  | .fmaxD rd rs1 rs2 => Laws.DecodeEncode.fmaxD rd rs1 rs2
  | .fcvtSD rd rs1 rm => Laws.DecodeEncode.fcvtSD rd rs1 rm
  | .fcvtDS rd rs1 rm => Laws.DecodeEncode.fcvtDS rd rs1 rm
  | .feqD rd rs1 rs2 => Laws.DecodeEncode.feqD rd rs1 rs2
  | .fltD rd rs1 rs2 => Laws.DecodeEncode.fltD rd rs1 rs2
  | .fleD rd rs1 rs2 => Laws.DecodeEncode.fleD rd rs1 rs2
  | .fclassD rd rs1 => Laws.DecodeEncode.fclassD rd rs1
  | .fcvtWD rd rs1 rm => Laws.DecodeEncode.fcvtWD rd rs1 rm
  | .fcvtWuD rd rs1 rm => Laws.DecodeEncode.fcvtWuD rd rs1 rm
  | .fcvtDW rd rs1 rm => Laws.DecodeEncode.fcvtDW rd rs1 rm
  | .fcvtDWu rd rs1 rm => Laws.DecodeEncode.fcvtDWu rd rs1 rm
  | .fcvtLD rd rs1 rm => Laws.DecodeEncode.fcvtLD rd rs1 rm
  | .fcvtLuD rd rs1 rm => Laws.DecodeEncode.fcvtLuD rd rs1 rm
  | .fmvXD rd rs1 => Laws.DecodeEncode.fmvXD rd rs1
  | .fcvtDL rd rs1 rm => Laws.DecodeEncode.fcvtDL rd rs1 rm
  | .fcvtDLu rd rs1 rm => Laws.DecodeEncode.fcvtDLu rd rs1 rm
  | .fmvDX rd rs1 => Laws.DecodeEncode.fmvDX rd rs1

/-- What the decoder answers has the word as its encoding, if it answers an instruction. -/
def AnswersWord (w : Word) : Except DecodeError Instr → Prop
  | .ok i => encode i = w
  | .error _ => True

section Decoders

variable {w : Word}

theorem decodeJalr_word (hop : opcodeOf w = 0b1100111#7) : AnswersWord w (decodeJalr w) := by
  unfold decodeJalr
  split
  case h_2 => trivial
  all_goals exact encI_of_fields ‹_› hop

theorem decodeBranch_word (hop : opcodeOf w = 0b1100011#7) : AnswersWord w (decodeBranch w) := by
  unfold decodeBranch
  split
  case h_7 => trivial
  all_goals exact encB_of_fields ‹_› hop

theorem decodeLoad_word (hop : opcodeOf w = 0b0000011#7) : AnswersWord w (decodeLoad w) := by
  unfold decodeLoad
  split
  case h_8 => trivial
  all_goals exact encI_of_fields ‹_› hop

theorem decodeStore_word (hop : opcodeOf w = 0b0100011#7) : AnswersWord w (decodeStore w) := by
  unfold decodeStore
  split
  case h_5 => trivial
  all_goals exact encS_of_fields ‹_› hop

theorem decodeShiftLeft_word (hop : opcodeOf w = 0b0010011#7) (h3 : funct3Of w = 0b001#3) :
    AnswersWord w (decodeShiftLeft w) := by
  unfold decodeShiftLeft
  split
  next h7 => exact encR_of_fields h7 h3 hop
  next =>
    split
    next h6 => exact encShift6_of_fields h6 h3 hop
    next => trivial

theorem decodeShiftRight_word (hop : opcodeOf w = 0b0010011#7) (h3 : funct3Of w = 0b101#3) :
    AnswersWord w (decodeShiftRight w) := by
  unfold decodeShiftRight
  split
  next h7 => exact encR_of_fields h7 h3 hop
  next =>
    split
    next h7 => exact encR_of_fields h7 h3 hop
    next =>
      split
      next h6 => exact encShift6_of_fields h6 h3 hop
      next =>
        split
        next h6 => exact encShift6_of_fields h6 h3 hop
        next => trivial

/-- The one value of funct3 that no other arm of OP-IMM takes. -/
theorem funct3_eq_101_of_ne {f : BitVec 3} (h0 : f ≠ 0b000#3) (h1 : f ≠ 0b001#3) (h2 : f ≠ 0b010#3)
    (h3 : f ≠ 0b011#3) (h4 : f ≠ 0b100#3) (h6 : f ≠ 0b110#3) (h7 : f ≠ 0b111#3) : f = 0b101#3 := by
  bv_omega

theorem decodeOpImm_word (hop : opcodeOf w = 0b0010011#7) : AnswersWord w (decodeOpImm w) := by
  unfold decodeOpImm
  split
  case h_7 h3 => exact decodeShiftLeft_word hop h3
  case h_8 h0 h2 h3 h4 h6 h7 h1 =>
    have h5 : funct3Of w = 0b101#3 := funct3_eq_101_of_ne h0 h1 h2 h3 h4 h6 h7
    exact decodeShiftRight_word hop h5
  all_goals exact encI_of_fields ‹_› hop

theorem decodeOp_word (hop : opcodeOf w = 0b0110011#7) : AnswersWord w (decodeOp w) := by
  unfold decodeOp
  split
  case h_19 => trivial
  all_goals exact encR_of_fields ‹_› ‹_› hop

theorem decodeMiscMem_word (hop : opcodeOf w = 0b0001111#7) : AnswersWord w (decodeMiscMem w) := by
  unfold decodeMiscMem
  split
  next h3 =>
    split
    next h =>
      obtain ⟨htop, hrs1, hrd⟩ := h
      exact encFence_of_fields htop hrs1 hrd h3 hop
    next => trivial
  next h3 =>
    split
    next h =>
      obtain ⟨himm, hrs1, hrd⟩ := h
      exact encI_of_fixed himm hrs1 hrd h3 hop
    next => trivial
  next => trivial

theorem decodePriv_word (hop : opcodeOf w = 0b1110011#7) (h3 : funct3Of w = 0b000#3) :
    AnswersWord w (decodePriv w) := by
  unfold decodePriv
  split
  next h =>
    obtain ⟨himm, hrs1, hrd⟩ := h
    exact encI_of_fixed himm hrs1 hrd h3 hop
  next =>
    split
    next h =>
      obtain ⟨himm, hrs1, hrd⟩ := h
      exact encI_of_fixed himm hrs1 hrd h3 hop
    next => trivial

theorem decodeSystem_word (hop : opcodeOf w = 0b1110011#7) : AnswersWord w (decodeSystem w) := by
  unfold decodeSystem
  split
  case h_1 h3 => exact decodePriv_word hop h3
  case h_8 => trivial
  all_goals exact encI_of_fields ‹_› hop

theorem decodeOpImm32_word (hop : opcodeOf w = 0b0011011#7) : AnswersWord w (decodeOpImm32 w) := by
  unfold decodeOpImm32
  split
  next h3 => exact encI_of_fields h3 hop
  next h3 =>
    split
    next h7 => exact encR_of_fields h7 h3 hop
    next => trivial
  next h3 =>
    split
    next h7 => exact encR_of_fields h7 h3 hop
    next =>
      split
      next h7 => exact encR_of_fields h7 h3 hop
      next => trivial
  next => trivial

theorem decodeOp32_word (hop : opcodeOf w = 0b0111011#7) : AnswersWord w (decodeOp32 w) := by
  unfold decodeOp32
  split
  case h_11 => trivial
  all_goals exact encR_of_fields ‹_› ‹_› hop

theorem decodeAmo_word (hop : opcodeOf w = 0b0101111#7) : AnswersWord w (decodeAmo w) := by
  obtain ⟨f5, aq, rl, rs2, rs1, f3, rd, rfl⟩ := exists_encAmo hop
  simp only [decodeAmo, Laws.rdOf_encAmo, Laws.funct3Of_encAmo, Laws.rs1Of_encAmo, Laws.rs2Of_encAmo, Laws.aqOf_encAmo,
    Laws.rlOf_encAmo, Laws.funct5Of_encAmo]
  split
  case h_1 | h_12 =>
    split
    next h2 => exact h2 ▸ rfl
    next => trivial
  all_goals trivial

theorem decodeLoadFp_word (hop : opcodeOf w = 0b0000111#7) : AnswersWord w (decodeLoadFp w) := by
  unfold decodeLoadFp
  split
  case h_3 => trivial
  all_goals exact encI_of_fields ‹_› hop

theorem decodeStoreFp_word (hop : opcodeOf w = 0b0100111#7) : AnswersWord w (decodeStoreFp w) := by
  unfold decodeStoreFp
  split
  case h_3 => trivial
  all_goals exact encS_of_fields ‹_› hop

theorem decodeMadd_word (hop : opcodeOf w = 0b1000011#7) : AnswersWord w (decodeMadd w) := by
  unfold decodeMadd
  split
  case h_3 => trivial
  all_goals exact encR4_of_fields ‹_› hop

theorem decodeMsub_word (hop : opcodeOf w = 0b1000111#7) : AnswersWord w (decodeMsub w) := by
  unfold decodeMsub
  split
  case h_3 => trivial
  all_goals exact encR4_of_fields ‹_› hop

theorem decodeNmsub_word (hop : opcodeOf w = 0b1001011#7) : AnswersWord w (decodeNmsub w) := by
  unfold decodeNmsub
  split
  case h_3 => trivial
  all_goals exact encR4_of_fields ‹_› hop

theorem decodeNmadd_word (hop : opcodeOf w = 0b1001111#7) : AnswersWord w (decodeNmadd w) := by
  unfold decodeNmadd
  split
  case h_3 => trivial
  all_goals exact encR4_of_fields ‹_› hop

theorem decodeOpFp_word (hop : opcodeOf w = 0b1010011#7) : AnswersWord w (decodeOpFp w) := by
  obtain ⟨f7, rs2, rs1, f3, rd, rfl⟩ := exists_encR hop
  simp only [decodeOpFp, Laws.rdOf_encR, Laws.funct3Of_encR, Laws.rs1Of_encR, Laws.rs2Of_encR, Laws.funct7Of_encR]
  repeat' split
  all_goals trivial

end Decoders

/-- The encoding of what is decoded is the word, for every major opcode (30_encoding.md R118). -/
theorem decode_word (w : Word) : AnswersWord w (decode w) := by
  unfold decode
  split
  next hop => exact encU_of_fields hop
  next hop => exact encU_of_fields hop
  next hop => exact encJ_of_fields hop
  next hop => exact decodeJalr_word hop
  next hop => exact decodeBranch_word hop
  next hop => exact decodeLoad_word hop
  next hop => exact decodeStore_word hop
  next hop => exact decodeOpImm_word hop
  next hop => exact decodeOp_word hop
  next hop => exact decodeMiscMem_word hop
  next hop => exact decodeSystem_word hop
  next hop => exact decodeOpImm32_word hop
  next hop => exact decodeOp32_word hop
  next hop => exact decodeAmo_word hop
  next hop => exact decodeLoadFp_word hop
  next hop => exact decodeStoreFp_word hop
  next hop => exact decodeMadd_word hop
  next hop => exact decodeMsub_word hop
  next hop => exact decodeNmsub_word hop
  next hop => exact decodeNmadd_word hop
  next hop => exact decodeOpFp_word hop
  next => trivial

theorem encode_of_decode_ok {w : Word} {i : Instr} (h : decode w = .ok i) : encode i = w := by
  have hw := decode_word w
  rwa [h] at hw

end Sys2Proof
end

section
/-! SUPPORT. The opcode table against the encoder: the row of an instruction, the fields a mask keeps, and both
directions between a word with the fixed bits of a row and an encoding of the row. -/

namespace Sys2Proof

/-! ### The row of an instruction -/

theorem length_opcodeTable : opcodeTable.length = 159 := by
  simp only [opcodeTable, executedRows, listedRows, rowsRv32i, rowsRv32m, rowsRv64i, rowsRv64m, rowsA, rowsF, rowsD,
    List.length_append, List.length_cons, List.length_nil]

theorem Instr.ctorIdx_lt (i : Instr) : i.ctorIdx < opcodeTable.length := by
  rw [length_opcodeTable]
  cases i <;> exact of_decide_eq_true rfl

/-- The row of an instruction: the constructors of `Instr` stand in the order of the opcode table. -/
def Instr.row (i : Instr) : OpcodeRow := opcodeTable[i.ctorIdx]'i.ctorIdx_lt

theorem Instr.row_mem (i : Instr) : i.row ∈ opcodeTable := List.getElem_mem _

theorem Instr.row_mnemonic (i : Instr) : i.row.mnemonic = i.mnemonic := by
  cases i <;> rfl

theorem Instr.row_executed (i : Instr) : i.row.executed = !Machine.isListed i := by
  cases i <;> rfl

/-! ### The bits a mask keeps -/

/-- A word under a mask, field by field. -/
theorem and_encR (w : Word) (m7 : BitVec 7) (m2 m1 : BitVec 5) (m3 : BitVec 3) (md : Reg) (mo : BitVec 7) :
    w &&& encR m7 m2 m1 m3 md mo =
      encR (funct7Of w &&& m7) (rs2Of w &&& m2) (rs1Of w &&& m1) (funct3Of w &&& m3) (rdOf w &&& md)
        (opcodeOf w &&& mo) := by
  conv_lhs => rw [← encR_fields w]
  apply BitVec.eq_of_getLsbD_eq
  intro i hi
  simp only [BitVec.getLsbD_and, Laws.getLsbD_encR]
  grind

theorem and_encI (w : Word) (mi : BitVec 12) (m1 : BitVec 5) (m3 : BitVec 3) (md : Reg) (mo : BitVec 7) :
    w &&& encI mi m1 m3 md mo =
      encI (immIOf w &&& mi) (rs1Of w &&& m1) (funct3Of w &&& m3) (rdOf w &&& md) (opcodeOf w &&& mo) := by
  conv_lhs => rw [← encI_fields w]
  apply BitVec.eq_of_getLsbD_eq
  intro i hi
  simp only [BitVec.getLsbD_and, Laws.getLsbD_encI]
  grind

theorem and_encShift6 (w : Word) (m6 ms : BitVec 6) (m1 : Reg) (m3 : BitVec 3) (md : Reg) (mo : BitVec 7) :
    w &&& encShift6 m6 ms m1 m3 md mo =
      encShift6 (funct6Of w &&& m6) (shamt6Of w &&& ms) (rs1Of w &&& m1) (funct3Of w &&& m3) (rdOf w &&& md)
        (opcodeOf w &&& mo) := by
  conv_lhs => rw [← encShift6_fields w]
  apply BitVec.eq_of_getLsbD_eq
  intro i hi
  simp only [BitVec.getLsbD_and, Laws.getLsbD_encShift6]
  grind

theorem and_encAmo (w : Word) (m5 : BitVec 5) (ma ml : BitVec 1) (m2 m1 : Reg) (m3 : BitVec 3) (md : Reg)
    (mo : BitVec 7) :
    w &&& encAmo m5 ma ml m2 m1 m3 md mo =
      encAmo (funct5Of w &&& m5) (aqOf w &&& ma) (rlOf w &&& ml) (rs2Of w &&& m2) (rs1Of w &&& m1) (funct3Of w &&& m3)
        (rdOf w &&& md) (opcodeOf w &&& mo) := by
  conv_lhs => rw [← encAmo_fields w]
  apply BitVec.eq_of_getLsbD_eq
  intro i hi
  simp only [BitVec.getLsbD_and, Laws.getLsbD_encAmo]
  grind

theorem and_encR4 (w : Word) (m4 : Reg) (mf : BitVec 2) (m2 m1 : Reg) (m3 : BitVec 3) (md : Reg) (mo : BitVec 7) :
    w &&& encR4 m4 mf m2 m1 m3 md mo =
      encR4 (rs3Of w &&& m4) (funct2Of w &&& mf) (rs2Of w &&& m2) (rs1Of w &&& m1) (funct3Of w &&& m3) (rdOf w &&& md)
        (opcodeOf w &&& mo) := by
  conv_lhs => rw [← encR4_fields w]
  apply BitVec.eq_of_getLsbD_eq
  intro i hi
  simp only [BitVec.getLsbD_and, Laws.getLsbD_encR4]
  grind

theorem and_opcode (w : Word) : w &&& 0x0000007F#32 = encR 0#7 0#5 0#5 0#3 0#5 (opcodeOf w) :=
  (and_encR w 0#7 0#5 0#5 0#3 0#5 (.allOnes 7)).trans
    (by simp only [BitVec.and_allOnes, BitVec.and_zero])

theorem and_funct3 (w : Word) : w &&& 0x0000707F#32 = encR 0#7 0#5 0#5 (funct3Of w) 0#5 (opcodeOf w) :=
  (and_encR w 0#7 0#5 0#5 (.allOnes 3) 0#5 (.allOnes 7)).trans
    (by simp only [BitVec.and_allOnes, BitVec.and_zero])

theorem and_funct7 (w : Word) : w &&& 0xFE00007F#32 = encR (funct7Of w) 0#5 0#5 0#3 0#5 (opcodeOf w) :=
  (and_encR w (.allOnes 7) 0#5 0#5 0#3 0#5 (.allOnes 7)).trans
    (by simp only [BitVec.and_allOnes, BitVec.and_zero])

theorem and_funct7_funct3 (w : Word) :
    w &&& 0xFE00707F#32 = encR (funct7Of w) 0#5 0#5 (funct3Of w) 0#5 (opcodeOf w) :=
  (and_encR w (.allOnes 7) 0#5 0#5 (.allOnes 3) 0#5 (.allOnes 7)).trans
    (by simp only [BitVec.and_allOnes, BitVec.and_zero])

theorem and_funct7_rs2 (w : Word) : w &&& 0xFFF0007F#32 = encR (funct7Of w) (rs2Of w) 0#5 0#3 0#5 (opcodeOf w) :=
  (and_encR w (.allOnes 7) (.allOnes 5) 0#5 0#3 0#5 (.allOnes 7)).trans
    (by simp only [BitVec.and_allOnes, BitVec.and_zero])

theorem and_funct7_rs2_funct3 (w : Word) :
    w &&& 0xFFF0707F#32 = encR (funct7Of w) (rs2Of w) 0#5 (funct3Of w) 0#5 (opcodeOf w) :=
  (and_encR w (.allOnes 7) (.allOnes 5) 0#5 (.allOnes 3) 0#5 (.allOnes 7)).trans
    (by simp only [BitVec.and_allOnes, BitVec.and_zero])

theorem and_funct6_funct3 (w : Word) :
    w &&& 0xFC00707F#32 = encShift6 (funct6Of w) 0#6 0#5 (funct3Of w) 0#5 (opcodeOf w) :=
  (and_encShift6 w (.allOnes 6) 0#6 0#5 (.allOnes 3) 0#5 (.allOnes 7)).trans
    (by simp only [BitVec.and_allOnes, BitVec.and_zero])

theorem and_funct5_funct3 (w : Word) :
    w &&& 0xF800707F#32 = encAmo (funct5Of w) 0#1 0#1 0#5 0#5 (funct3Of w) 0#5 (opcodeOf w) :=
  (and_encAmo w (.allOnes 5) 0#1 0#1 0#5 0#5 (.allOnes 3) 0#5 (.allOnes 7)).trans
    (by simp only [BitVec.and_allOnes, BitVec.and_zero])

theorem and_funct5_rs2_funct3 (w : Word) :
    w &&& 0xF9F0707F#32 = encAmo (funct5Of w) 0#1 0#1 (rs2Of w) 0#5 (funct3Of w) 0#5 (opcodeOf w) :=
  (and_encAmo w (.allOnes 5) 0#1 0#1 (.allOnes 5) 0#5 (.allOnes 3) 0#5 (.allOnes 7)).trans
    (by simp only [BitVec.and_allOnes, BitVec.and_zero])

theorem and_funct2 (w : Word) : w &&& 0x0600007F#32 = encR4 0#5 (funct2Of w) 0#5 0#5 0#3 0#5 (opcodeOf w) :=
  (and_encR4 w 0#5 (.allOnes 2) 0#5 0#5 0#3 0#5 (.allOnes 7)).trans
    (by simp only [BitVec.and_allOnes, BitVec.and_zero])

/-- Of inst[31:20], FENCE fixes inst[31:28] and leaves pred and succ free (30_encoding.md R115). -/
theorem immIOf_and_fence (w : Word) : immIOf w &&& (BitVec.allOnes 4 ++ 0#8) = fenceTopOf w ++ 0#8 := by
  apply BitVec.eq_of_getLsbD_eq
  intro i hi
  simp only [immIOf, fenceTopOf, BitVec.getLsbD_and, BitVec.getLsbD_append, BitVec.getLsbD_allOnes,
    BitVec.getLsbD_zero, BitVec.getLsbD_extractLsb']
  grind

theorem and_fence (w : Word) :
    w &&& 0xF00FFFFF#32 = encI (fenceTopOf w ++ 0#8) (rs1Of w) (funct3Of w) (rdOf w) (opcodeOf w) :=
  (and_encI w (BitVec.allOnes 4 ++ 0#8) (.allOnes 5) (.allOnes 3) (.allOnes 5) (.allOnes 7)).trans
    (by rw [immIOf_and_fence]; simp only [BitVec.and_allOnes])

/-! ### An encoding has the fixed bits of its row -/

section Covers

variable {name : String} {p : Word} {x : Bool} {op : BitVec 7} {rd rs1 rs2 rs3 : Reg} {f3 : BitVec 3} {f7 : BitVec 7}

theorem covers_encU {imm : BitVec 20} (hp : encR 0#7 0#5 0#5 0#3 0#5 op = p) :
    OpcodeRow.covers ⟨name, p, 0x0000007F#32, x⟩ (encU imm rd op) = true := by
  simp [OpcodeRow.covers, and_opcode, hp]

theorem covers_encJ {off : BitVec 21} (hp : encR 0#7 0#5 0#5 0#3 0#5 op = p) :
    OpcodeRow.covers ⟨name, p, 0x0000007F#32, x⟩ (encJ off rd op) = true := by
  simp [OpcodeRow.covers, and_opcode, hp]

theorem covers_encI {imm : BitVec 12} (hp : encR 0#7 0#5 0#5 f3 0#5 op = p) :
    OpcodeRow.covers ⟨name, p, 0x0000707F#32, x⟩ (encI imm rs1 f3 rd op) = true := by
  simp [OpcodeRow.covers, and_funct3, hp]

theorem covers_encS {imm : BitVec 12} (hp : encR 0#7 0#5 0#5 f3 0#5 op = p) :
    OpcodeRow.covers ⟨name, p, 0x0000707F#32, x⟩ (encS imm rs2 rs1 f3 op) = true := by
  simp [OpcodeRow.covers, and_funct3, hp]

theorem covers_encB {off : BitVec 13} (hp : encR 0#7 0#5 0#5 f3 0#5 op = p) :
    OpcodeRow.covers ⟨name, p, 0x0000707F#32, x⟩ (encB off rs2 rs1 f3 op) = true := by
  simp [OpcodeRow.covers, and_funct3, hp]

theorem covers_encR (hp : encR f7 0#5 0#5 f3 0#5 op = p) :
    OpcodeRow.covers ⟨name, p, 0xFE00707F#32, x⟩ (encR f7 rs2 rs1 f3 rd op) = true := by
  simp [OpcodeRow.covers, and_funct7_funct3, hp]

theorem covers_encR_rm (hp : encR f7 0#5 0#5 0#3 0#5 op = p) :
    OpcodeRow.covers ⟨name, p, 0xFE00007F#32, x⟩ (encR f7 rs2 rs1 f3 rd op) = true := by
  simp [OpcodeRow.covers, and_funct7, hp]

theorem covers_encR_rs2_rm (hp : encR f7 rs2 0#5 0#3 0#5 op = p) :
    OpcodeRow.covers ⟨name, p, 0xFFF0007F#32, x⟩ (encR f7 rs2 rs1 f3 rd op) = true := by
  simp [OpcodeRow.covers, and_funct7_rs2, hp]

theorem covers_encR_rs2 (hp : encR f7 rs2 0#5 f3 0#5 op = p) :
    OpcodeRow.covers ⟨name, p, 0xFFF0707F#32, x⟩ (encR f7 rs2 rs1 f3 rd op) = true := by
  simp [OpcodeRow.covers, and_funct7_rs2_funct3, hp]

theorem covers_encShift6 {f6 shamt : BitVec 6} (hp : encShift6 f6 0#6 0#5 f3 0#5 op = p) :
    OpcodeRow.covers ⟨name, p, 0xFC00707F#32, x⟩ (encShift6 f6 shamt rs1 f3 rd op) = true := by
  simp [OpcodeRow.covers, and_funct6_funct3, hp]

theorem covers_encAmo {f5 : BitVec 5} {aq rl : BitVec 1} (hp : encAmo f5 0#1 0#1 0#5 0#5 f3 0#5 op = p) :
    OpcodeRow.covers ⟨name, p, 0xF800707F#32, x⟩ (encAmo f5 aq rl rs2 rs1 f3 rd op) = true := by
  simp [OpcodeRow.covers, and_funct5_funct3, hp]

theorem covers_encAmo_rs2 {f5 : BitVec 5} {aq rl : BitVec 1} (hp : encAmo f5 0#1 0#1 rs2 0#5 f3 0#5 op = p) :
    OpcodeRow.covers ⟨name, p, 0xF9F0707F#32, x⟩ (encAmo f5 aq rl rs2 rs1 f3 rd op) = true := by
  simp [OpcodeRow.covers, and_funct5_rs2_funct3, hp]

theorem covers_encR4 {f2 : BitVec 2} (hp : encR4 0#5 f2 0#5 0#5 0#3 0#5 op = p) :
    OpcodeRow.covers ⟨name, p, 0x0600007F#32, x⟩ (encR4 rs3 f2 rs2 rs1 f3 rd op) = true := by
  simp [OpcodeRow.covers, and_funct2, hp]

theorem covers_encFence {pred succ : BitVec 4} :
    OpcodeRow.covers ⟨name, 0x0000000F#32, 0xF00FFFFF#32, x⟩ (encFence pred succ) = true := by
  simp [OpcodeRow.covers, and_fence, encI]

end Covers

/-- The encoding of an instruction has the fixed bits of the instruction's row: one line per format and mask. -/
theorem Instr.row_covers (i : Instr) : i.row.covers (encode i) = true := by
  cases i with
  | lui | auipc => exact covers_encU rfl
  | jal => exact covers_encJ rfl
  | jalr | lb | lh | lw | lbu | lhu | addi | slti | sltiu | xori | ori | andi | csrrw | csrrs | csrrc | csrrwi
  | csrrsi | csrrci | lwu | ld | addiw | flw | fld =>
    exact covers_encI rfl
  | beq | bne | blt | bge | bltu | bgeu => exact covers_encB rfl
  | sb | sh | sw | sd | fsw | fsd => exact covers_encS rfl
  | slli | srli | srai | add | sub | sll | slt | sltu | xor | srl | sra | or | and | mul | mulh | mulhsu | mulhu
  | div | divu | rem | remu | slliw | srliw | sraiw | addw | subw | sllw | srlw | sraw | mulw | divw | divuw | remw
  | remuw | fsgnjS | fsgnjnS | fsgnjxS | fminS | fmaxS | feqS | fltS | fleS | fsgnjD | fsgnjnD | fsgnjxD | fminD
  | fmaxD | feqD | fltD | fleD =>
    exact covers_encR rfl
  | fence => exact covers_encFence
  | fenceI | ecall | ebreak => rfl
  | slliRv64 | srliRv64 | sraiRv64 => exact covers_encShift6 rfl
  | lrW | lrD => exact covers_encAmo_rs2 rfl
  | scW | amoswapW | amoaddW | amoxorW | amoandW | amoorW | amominW | amomaxW | amominuW | amomaxuW | scD
  | amoswapD | amoaddD | amoxorD | amoandD | amoorD | amominD | amomaxD | amominuD | amomaxuD =>
    exact covers_encAmo rfl
  | fmaddS | fmsubS | fnmsubS | fnmaddS | fmaddD | fmsubD | fnmsubD | fnmaddD => exact covers_encR4 rfl
  | faddS | fsubS | fmulS | fdivS | faddD | fsubD | fmulD | fdivD => exact covers_encR_rm rfl
  | fsqrtS | fcvtWS | fcvtWuS | fcvtSW | fcvtSWu | fcvtLS | fcvtLuS | fcvtSL | fcvtSLu | fsqrtD | fcvtSD | fcvtDS
  | fcvtWD | fcvtWuD | fcvtDW | fcvtDWu | fcvtLD | fcvtLuD | fcvtDL | fcvtDLu =>
    exact covers_encR_rs2_rm rfl
  | fmvXW | fclassS | fmvWX | fclassD | fmvXD | fmvDX => exact covers_encR_rs2 rfl

/-! ### A word with the fixed bits of an executed row is built in the row's format -/

section OfCovers

variable {w p : Word} {name : String} {x : Bool}

theorem opcodeOf_of_covers (h : OpcodeRow.covers ⟨name, p, 0x0000007F#32, x⟩ w = true) :
    opcodeOf w = opcodeOf p := by
  have hp : w &&& 0x0000007F#32 = p := beq_iff_eq.1 h
  rw [← hp, and_opcode, Laws.opcodeOf_encR]

theorem funct3Of_of_covers (h : OpcodeRow.covers ⟨name, p, 0x0000707F#32, x⟩ w = true) :
    funct3Of w = funct3Of p ∧ opcodeOf w = opcodeOf p := by
  have hp : w &&& 0x0000707F#32 = p := beq_iff_eq.1 h
  rw [← hp, and_funct3, Laws.funct3Of_encR, Laws.opcodeOf_encR]
  exact ⟨rfl, rfl⟩

theorem encU_of_covers (h : OpcodeRow.covers ⟨name, p, 0x0000007F#32, x⟩ w = true) :
    encU (immUOf w) (rdOf w) (opcodeOf p) = w :=
  encU_of_fields (opcodeOf_of_covers h)

theorem encJ_of_covers (h : OpcodeRow.covers ⟨name, p, 0x0000007F#32, x⟩ w = true) :
    encJ (offJOf w) (rdOf w) (opcodeOf p) = w :=
  encJ_of_fields (opcodeOf_of_covers h)

theorem encI_of_covers (h : OpcodeRow.covers ⟨name, p, 0x0000707F#32, x⟩ w = true) :
    encI (immIOf w) (rs1Of w) (funct3Of p) (rdOf w) (opcodeOf p) = w :=
  encI_of_fields (funct3Of_of_covers h).1 (funct3Of_of_covers h).2

theorem encS_of_covers (h : OpcodeRow.covers ⟨name, p, 0x0000707F#32, x⟩ w = true) :
    encS (immSOf w) (rs2Of w) (rs1Of w) (funct3Of p) (opcodeOf p) = w :=
  encS_of_fields (funct3Of_of_covers h).1 (funct3Of_of_covers h).2

theorem encB_of_covers (h : OpcodeRow.covers ⟨name, p, 0x0000707F#32, x⟩ w = true) :
    encB (offBOf w) (rs2Of w) (rs1Of w) (funct3Of p) (opcodeOf p) = w :=
  encB_of_fields (funct3Of_of_covers h).1 (funct3Of_of_covers h).2

theorem encR_of_covers (h : OpcodeRow.covers ⟨name, p, 0xFE00707F#32, x⟩ w = true) :
    encR (funct7Of p) (rs2Of w) (rs1Of w) (funct3Of p) (rdOf w) (opcodeOf p) = w := by
  have hp : w &&& 0xFE00707F#32 = p := beq_iff_eq.1 h
  rw [← hp, and_funct7_funct3, Laws.funct7Of_encR, Laws.funct3Of_encR, Laws.opcodeOf_encR, encR_fields]

theorem fenceTopOf_encI (top : BitVec 4) (low : BitVec 8) (rs1 : BitVec 5) (f3 : BitVec 3) (rd : Reg) (op : BitVec 7) :
    fenceTopOf (encI (top ++ low) rs1 f3 rd op) = top := by
  apply BitVec.eq_of_getLsbD_eq
  intro i hi
  simp only [fenceTopOf, Laws.getLsbD_encI, BitVec.getLsbD_extractLsb', BitVec.getLsbD_append]
  grind

theorem encFence_of_covers (h : OpcodeRow.covers ⟨name, 0x0000000F#32, 0xF00FFFFF#32, x⟩ w = true) :
    encFence (predOf w) (succOf w) = w := by
  have hp : encI (fenceTopOf w ++ 0#8) (rs1Of w) (funct3Of w) (rdOf w) (opcodeOf w) = 0x0000000F#32 := by
    rw [← and_fence]
    exact beq_iff_eq.1 h
  have htop : fenceTopOf w = 0b0000#4 := (fenceTopOf_encI ..).symm.trans (congrArg fenceTopOf hp)
  have hrs1 : rs1Of w = 0b00000#5 := (Laws.rs1Of_encI ..).symm.trans (congrArg rs1Of hp)
  have hrd : rdOf w = 0b00000#5 := (Laws.rdOf_encI ..).symm.trans (congrArg rdOf hp)
  have h3 : funct3Of w = 0b000#3 := (Laws.funct3Of_encI ..).symm.trans (congrArg funct3Of hp)
  have hop : opcodeOf w = 0b0001111#7 := (Laws.opcodeOf_encI ..).symm.trans (congrArg opcodeOf hp)
  exact encFence_of_fields htop hrs1 hrd h3 hop

theorem eq_of_covers (h : OpcodeRow.covers ⟨name, p, 0xFFFFFFFF#32, x⟩ w = true) : p = w := by
  have hp : w &&& BitVec.allOnes 32 = p := beq_iff_eq.1 h
  rw [← hp, BitVec.and_allOnes]

end OfCovers

/-- A word with the row's fixed bits is the encoding of a well-formed instruction of the row. -/
def OpcodeRow.Builds (r : OpcodeRow) : Prop :=
  ∀ w, r.covers w = true → ∃ i : Instr, i.row = r ∧ i.wf = true ∧ encode i = w

/-- Each executed row in the table's order, with the instruction its variable bits give (30_encoding.md R125). -/
theorem executedRows_build : ∀ r ∈ executedRows, r.Builds := by
  simp only [executedRows, rowsRv32i, rowsRv32m, List.forall_mem_append, List.forall_mem_cons, List.not_mem_nil,
    false_imp_iff, implies_true, and_true]
  exact ⟨⟨
    fun w h => ⟨.lui (rdOf w) (immUOf w), rfl, rfl, (encU_of_covers h :)⟩,
    fun w h => ⟨.auipc (rdOf w) (immUOf w), rfl, rfl, (encU_of_covers h :)⟩,
    fun w h => ⟨.jal (rdOf w) (offJOf w), rfl, offsetEven_offJOf w, (encJ_of_covers h :)⟩,
    fun w h => ⟨.jalr (rdOf w) (rs1Of w) (immIOf w), rfl, rfl, (encI_of_covers h :)⟩,
    fun w h => ⟨.beq (rs1Of w) (rs2Of w) (offBOf w), rfl, offsetEven_offBOf w, (encB_of_covers h :)⟩,
    fun w h => ⟨.bne (rs1Of w) (rs2Of w) (offBOf w), rfl, offsetEven_offBOf w, (encB_of_covers h :)⟩,
    fun w h => ⟨.blt (rs1Of w) (rs2Of w) (offBOf w), rfl, offsetEven_offBOf w, (encB_of_covers h :)⟩,
    fun w h => ⟨.bge (rs1Of w) (rs2Of w) (offBOf w), rfl, offsetEven_offBOf w, (encB_of_covers h :)⟩,
    fun w h => ⟨.bltu (rs1Of w) (rs2Of w) (offBOf w), rfl, offsetEven_offBOf w, (encB_of_covers h :)⟩,
    fun w h => ⟨.bgeu (rs1Of w) (rs2Of w) (offBOf w), rfl, offsetEven_offBOf w, (encB_of_covers h :)⟩,
    fun w h => ⟨.lb (rdOf w) (rs1Of w) (immIOf w), rfl, rfl, (encI_of_covers h :)⟩,
    fun w h => ⟨.lh (rdOf w) (rs1Of w) (immIOf w), rfl, rfl, (encI_of_covers h :)⟩,
    fun w h => ⟨.lw (rdOf w) (rs1Of w) (immIOf w), rfl, rfl, (encI_of_covers h :)⟩,
    fun w h => ⟨.lbu (rdOf w) (rs1Of w) (immIOf w), rfl, rfl, (encI_of_covers h :)⟩,
    fun w h => ⟨.lhu (rdOf w) (rs1Of w) (immIOf w), rfl, rfl, (encI_of_covers h :)⟩,
    fun w h => ⟨.sb (rs1Of w) (rs2Of w) (immSOf w), rfl, rfl, (encS_of_covers h :)⟩,
    fun w h => ⟨.sh (rs1Of w) (rs2Of w) (immSOf w), rfl, rfl, (encS_of_covers h :)⟩,
    fun w h => ⟨.sw (rs1Of w) (rs2Of w) (immSOf w), rfl, rfl, (encS_of_covers h :)⟩,
    fun w h => ⟨.addi (rdOf w) (rs1Of w) (immIOf w), rfl, rfl, (encI_of_covers h :)⟩,
    fun w h => ⟨.slti (rdOf w) (rs1Of w) (immIOf w), rfl, rfl, (encI_of_covers h :)⟩,
    fun w h => ⟨.sltiu (rdOf w) (rs1Of w) (immIOf w), rfl, rfl, (encI_of_covers h :)⟩,
    fun w h => ⟨.xori (rdOf w) (rs1Of w) (immIOf w), rfl, rfl, (encI_of_covers h :)⟩,
    fun w h => ⟨.ori (rdOf w) (rs1Of w) (immIOf w), rfl, rfl, (encI_of_covers h :)⟩,
    fun w h => ⟨.andi (rdOf w) (rs1Of w) (immIOf w), rfl, rfl, (encI_of_covers h :)⟩,
    fun w h => ⟨.slli (rdOf w) (rs1Of w) (rs2Of w), rfl, rfl, (encR_of_covers h :)⟩,
    fun w h => ⟨.srli (rdOf w) (rs1Of w) (rs2Of w), rfl, rfl, (encR_of_covers h :)⟩,
    fun w h => ⟨.srai (rdOf w) (rs1Of w) (rs2Of w), rfl, rfl, (encR_of_covers h :)⟩,
    fun w h => ⟨.add (rdOf w) (rs1Of w) (rs2Of w), rfl, rfl, (encR_of_covers h :)⟩,
    fun w h => ⟨.sub (rdOf w) (rs1Of w) (rs2Of w), rfl, rfl, (encR_of_covers h :)⟩,
    fun w h => ⟨.sll (rdOf w) (rs1Of w) (rs2Of w), rfl, rfl, (encR_of_covers h :)⟩,
    fun w h => ⟨.slt (rdOf w) (rs1Of w) (rs2Of w), rfl, rfl, (encR_of_covers h :)⟩,
    fun w h => ⟨.sltu (rdOf w) (rs1Of w) (rs2Of w), rfl, rfl, (encR_of_covers h :)⟩,
    fun w h => ⟨.xor (rdOf w) (rs1Of w) (rs2Of w), rfl, rfl, (encR_of_covers h :)⟩,
    fun w h => ⟨.srl (rdOf w) (rs1Of w) (rs2Of w), rfl, rfl, (encR_of_covers h :)⟩,
    fun w h => ⟨.sra (rdOf w) (rs1Of w) (rs2Of w), rfl, rfl, (encR_of_covers h :)⟩,
    fun w h => ⟨.or (rdOf w) (rs1Of w) (rs2Of w), rfl, rfl, (encR_of_covers h :)⟩,
    fun w h => ⟨.and (rdOf w) (rs1Of w) (rs2Of w), rfl, rfl, (encR_of_covers h :)⟩,
    fun w h => ⟨.fence (predOf w) (succOf w), rfl, rfl, (encFence_of_covers h :)⟩,
    fun w h => ⟨.fenceI, rfl, rfl, (eq_of_covers h :)⟩,
    fun w h => ⟨.ecall, rfl, rfl, (eq_of_covers h :)⟩,
    fun w h => ⟨.ebreak, rfl, rfl, (eq_of_covers h :)⟩,
    fun w h => ⟨.csrrw (rdOf w) (immIOf w) (rs1Of w), rfl, rfl, (encI_of_covers h :)⟩,
    fun w h => ⟨.csrrs (rdOf w) (immIOf w) (rs1Of w), rfl, rfl, (encI_of_covers h :)⟩,
    fun w h => ⟨.csrrc (rdOf w) (immIOf w) (rs1Of w), rfl, rfl, (encI_of_covers h :)⟩,
    fun w h => ⟨.csrrwi (rdOf w) (immIOf w) (rs1Of w), rfl, rfl, (encI_of_covers h :)⟩,
    fun w h => ⟨.csrrsi (rdOf w) (immIOf w) (rs1Of w), rfl, rfl, (encI_of_covers h :)⟩,
    fun w h => ⟨.csrrci (rdOf w) (immIOf w) (rs1Of w), rfl, rfl, (encI_of_covers h :)⟩⟩,
    fun w h => ⟨.mul (rdOf w) (rs1Of w) (rs2Of w), rfl, rfl, (encR_of_covers h :)⟩,
    fun w h => ⟨.mulh (rdOf w) (rs1Of w) (rs2Of w), rfl, rfl, (encR_of_covers h :)⟩,
    fun w h => ⟨.mulhsu (rdOf w) (rs1Of w) (rs2Of w), rfl, rfl, (encR_of_covers h :)⟩,
    fun w h => ⟨.mulhu (rdOf w) (rs1Of w) (rs2Of w), rfl, rfl, (encR_of_covers h :)⟩,
    fun w h => ⟨.div (rdOf w) (rs1Of w) (rs2Of w), rfl, rfl, (encR_of_covers h :)⟩,
    fun w h => ⟨.divu (rdOf w) (rs1Of w) (rs2Of w), rfl, rfl, (encR_of_covers h :)⟩,
    fun w h => ⟨.rem (rdOf w) (rs1Of w) (rs2Of w), rfl, rfl, (encR_of_covers h :)⟩,
    fun w h => ⟨.remu (rdOf w) (rs1Of w) (rs2Of w), rfl, rfl, (encR_of_covers h :)⟩⟩

end Sys2Proof
end

section
/-! SUPPORT. What the opcode table and the major opcode say about the decoder (30_encoding.md R118, R119, R121). -/

namespace Sys2Proof

/-- A word with the fixed bits of an executed row decodes to an instruction of that row (R119 clause 3). -/
theorem exists_decode_of_covers {w : Word} {r : OpcodeRow} (hr : r ∈ executedRows) (h : r.covers w = true) :
    ∃ i : Instr, decode w = .ok i ∧ i.row = r := by
  obtain ⟨i, hrow, hwf, rfl⟩ := executedRows_build r hr w h
  exact ⟨i, decode_encode i hwf, hrow⟩

theorem row_eq_of_covers {w : Word} {i : Instr} {r : OpcodeRow} (hd : decode w = .ok i) (hr : r ∈ executedRows)
    (h : r.covers w = true) : i.row = r := by
  obtain ⟨j, hj, hrow⟩ := exists_decode_of_covers hr h
  rw [hd] at hj
  cases hj
  exact hrow

/-! ### Major opcodes -/

/-- The major opcodes of the executed instructions (30_encoding.md R118, R125). -/
def executedOpcodes : List (BitVec 7) :=
  [0b0110111#7, 0b0010111#7, 0b1101111#7, 0b1100111#7, 0b1100011#7, 0b0000011#7, 0b0100011#7, 0b0010011#7, 0b0110011#7,
    0b0001111#7, 0b1110011#7]

theorem opcodeOf_and (w v : Word) : opcodeOf (w &&& v) = opcodeOf w &&& opcodeOf v := BitVec.extractLsb'_and

/-- Every executed row fixes the whole major opcode, to one of the eleven. -/
theorem executedRows_opcode :
    ∀ r ∈ executedRows, opcodeOf r.mask = .allOnes 7 ∧ opcodeOf r.pattern ∈ executedOpcodes := by
  decide

theorem opcodeOf_mem_of_covers {w : Word} {r : OpcodeRow} (hr : r ∈ executedRows) (h : r.covers w = true) :
    opcodeOf w ∈ executedOpcodes := by
  obtain ⟨hmask, hop⟩ := executedRows_opcode r hr
  have hp : w &&& r.mask = r.pattern := beq_iff_eq.1 h
  rwa [← hp, opcodeOf_and, hmask, BitVec.and_allOnes] at hop

/-- inst[1:0] of an executed instruction is 11 and inst[4:2] is not 111 (R119 clauses 1 and 2). -/
theorem executedOpcodes_low :
    ∀ op ∈ executedOpcodes, op.extractLsb' 0 2 = 0b11#2 ∧ op.extractLsb' 2 3 ≠ 0b111#3 := by
  decide

/-- A field inside inst[6:0] is read off the major opcode. -/
theorem extractLsb'_opcodeOf (w : Word) {start len : Nat} (h : start + len ≤ 7) :
    (opcodeOf w).extractLsb' start len = w.extractLsb' start len := by
  apply BitVec.eq_of_getLsbD_eq
  intro i hi
  have hlt : start + i < 7 := by omega
  simp [opcodeOf, hi, hlt]

/-! ### Listed-only rows -/

theorem listedRows_not_executed : ∀ r ∈ listedRows, r.executed = false := by
  decide

theorem row_mem_executedRows {i : Instr} (h : Machine.isListed i = false) : i.row ∈ executedRows := by
  have hexecuted : i.row.executed = true := by rw [i.row_executed, h]; rfl
  rcases List.mem_append.1 i.row_mem with hmem | hmem
  · exact hmem
  · rw [listedRows_not_executed _ hmem] at hexecuted
    cases hexecuted

/-! ### Reserved FENCE words -/

theorem decode_of_miscMem {w : Word} (hop : opcodeOf w = 0b0001111#7) : decode w = decodeMiscMem w := by
  simp only [decode, hop]

theorem decodeMiscMem_of_funct3_zero {w : Word} (h3 : funct3Of w = 0b000#3) :
    decodeMiscMem w = if fenceTopOf w = 0#4 ∧ rs1Of w = 0#5 ∧ rdOf w = 0#5 then .ok (.fence (predOf w) (succOf w))
      else .error .reservedFence := by
  simp only [decodeMiscMem, h3]

theorem decodeMiscMem_of_funct3_one {w : Word} (h3 : funct3Of w = 0b001#3) :
    decodeMiscMem w = if immIOf w = 0#12 ∧ rs1Of w = 0#5 ∧ rdOf w = 0#5 then .ok .fenceI
      else .error .reservedFence := by
  simp only [decodeMiscMem, h3]

theorem decodeMiscMem_of_funct3_ne {w : Word} (h0 : funct3Of w ≠ 0b000#3) (h1 : funct3Of w ≠ 0b001#3) :
    decodeMiscMem w = .error .illegal := by
  unfold decodeMiscMem
  split
  next h3 => exact absurd h3 h0
  next h3 => exact absurd h3 h1
  next => rfl

theorem decodeMiscMem_eq_reservedFence_iff (w : Word) :
    decodeMiscMem w = .error .reservedFence ↔
      (funct3Of w = 0b000#3 ∧ (fenceTopOf w ≠ 0#4 ∨ rs1Of w ≠ 0#5 ∨ rdOf w ≠ 0#5)) ∨
      (funct3Of w = 0b001#3 ∧ (immIOf w ≠ 0#12 ∨ rs1Of w ≠ 0#5 ∨ rdOf w ≠ 0#5)) := by
  by_cases h0 : funct3Of w = 0b000#3
  · rw [decodeMiscMem_of_funct3_zero h0, ite_eq_right_iff]
    simp only [h0, ne_eq, ← not_and_or, reduceCtorEq, imp_false, true_and, BitVec.reduceEq, false_and, or_false]
  · by_cases h1 : funct3Of w = 0b001#3
    · rw [decodeMiscMem_of_funct3_one h1, ite_eq_right_iff]
      simp only [h1, ne_eq, ← not_and_or, reduceCtorEq, imp_false, true_and, BitVec.reduceEq, false_and, false_or]
    · simp [decodeMiscMem_of_funct3_ne h0 h1, h0, h1]

/-- Only a word of MISC-MEM is refused. -/
theorem opcodeOf_of_decode_reservedFence {w : Word} (h : decode w = .error .reservedFence) :
    opcodeOf w = 0b0001111#7 := by
  by_contra hop
  revert h
  dsimp only [decode, decodeJalr, decodeBranch, decodeLoad, decodeStore, decodeOpImm, decodeShiftLeft, decodeShiftRight,
    decodeOp, decodeSystem, decodePriv, decodeOpImm32, decodeOp32, decodeAmo, decodeLoadFp, decodeStoreFp, decodeMadd,
    decodeMsub, decodeNmsub, decodeNmadd, decodeOpFp]
  repeat' split
  all_goals first | contradiction | exact nofun

/-- The decoder refuses exactly the reserved variants of R121. -/
theorem decode_eq_reservedFence_iff (w : Word) : decode w = .error .reservedFence ↔ Machine.ReservedFenceWord w := by
  refine ⟨fun h => ?_, fun ⟨hop, h⟩ => ?_⟩
  · have hop := opcodeOf_of_decode_reservedFence h
    rw [decode_of_miscMem hop] at h
    exact ⟨hop, (decodeMiscMem_eq_reservedFence_iff w).1 h⟩
  · rw [decode_of_miscMem hop]
    exact (decodeMiscMem_eq_reservedFence_iff w).2 h

/-- A MISC-MEM word with funct3 000 or 001 is a fence or is refused (R119 clauses 3 and 4). -/
theorem decode_fence_or_reservedFence {w : Word} (hop : opcodeOf w = 0b0001111#7)
    (h3 : funct3Of w = 0b000#3 ∨ funct3Of w = 0b001#3) :
    (∃ i, decode w = .ok i ∧ Machine.isListed i = false) ∨ decode w = .error .reservedFence := by
  rw [decode_of_miscMem hop]
  obtain h0 | h1 := h3
  · rw [decodeMiscMem_of_funct3_zero h0]
    split
    · exact .inl ⟨_, rfl, rfl⟩
    · exact .inr rfl
  · rw [decodeMiscMem_of_funct3_one h1]
    split
    · exact .inl ⟨_, rfl, rfl⟩
    · exact .inr rfl

end Sys2Proof
end

section
/-! SUPPORT. Words that trap because no executed row covers them (30_encoding.md R119, R120). -/

namespace Sys2Proof.Machine

theorem runWord_of_decode_truncated {w : Word} (h : decode w = .error .truncated) (s : State) :
    runWord w s = .next (takeException s .illegalInstruction (some w)) := by
  simp only [runWord, h, raise_eq]

/-- A listed-only instruction that a word decodes to raises IllegalInstruction (30_encoding.md R120). -/
theorem exec_of_isListed {i : Instr} (hl : isListed i = true) (hwf : i.wf = true) (s : State) :
    exec i s = illegal i s := by
  cases i with
  | slliRv64 | srliRv64 | sraiRv64 => exact if_pos hwf
  | _ => first | (cases hl; done) | rfl

/-- A word that no executed row covers and that is not refused traps with the word (R119 clause 5, R120). -/
theorem traps_of_no_executed_row {w : Word} (hrow : ∀ r ∈ executedRows, r.covers w ≠ true)
    (hfence : decode w ≠ .error .reservedFence) (s : State) :
    Traps s (runWord w s) .illegalInstruction (some w) := by
  have htrap := traps_takeException s .illegalInstruction (some w)
  cases hd : decode w with
  | ok i =>
    have hw : encode i = w := encode_of_decode_ok hd
    have hl : isListed i = true := by
      by_contra hl
      exact hrow i.row (row_mem_executedRows (Bool.eq_false_of_not_eq_true hl)) (hw ▸ i.row_covers)
    rwa [runWord_of_decode_ok hd, exec_of_isListed hl (wf_of_decode_ok hd), illegal_eq, hw]
  | error e =>
    cases e with
    | illegal => rwa [runWord_of_decode_illegal hd]
    | reservedFence => exact absurd hd hfence
    | truncated => rwa [runWord_of_decode_truncated hd]

/-- A word whose major opcode no executed instruction has traps (R120, R122). -/
theorem traps_of_opcode {w : Word} (h : opcodeOf w ∉ executedOpcodes) (s : State) :
    Traps s (runWord w s) .illegalInstruction (some w) := by
  refine traps_of_no_executed_row (fun r hr hc => h (opcodeOf_mem_of_covers hr hc)) (fun hd => h ?_) s
  rw [opcodeOf_of_decode_reservedFence hd]
  decide

end Sys2Proof.Machine
end

section
/-! SUPPORT. The immediates of a word, bit by bit, and their ranges. -/

namespace Sys2Proof.Machine

/-! ### The bits of each immediate (30_encoding.md R108 to R112) -/

section Bits

variable (w : Word) {k : Nat} (hk : k < 32)

include hk

theorem getLsbD_immI :
    (immI (immIOf w)).getLsbD k = if k < 11 then w.getLsbD (k + 20) else w.getLsbD 31 := by
  simp only [immI, immIOf, BitVec.getLsbD_signExtend, BitVec.msb_eq_getLsbD_last, BitVec.getLsbD_extractLsb']
  grind

theorem getLsbD_immS :
    (immS (immSOf w)).getLsbD k =
      if k < 5 then w.getLsbD (k + 7) else if k < 11 then w.getLsbD (k + 20) else w.getLsbD 31 := by
  simp only [immS, immSOf, BitVec.getLsbD_signExtend, BitVec.msb_eq_getLsbD_last, BitVec.getLsbD_append,
    BitVec.getLsbD_extractLsb']
  grind

theorem getLsbD_immB :
    (immB (offBOf w)).getLsbD k =
      if k = 0 then false else if k < 5 then w.getLsbD (k + 7) else if k < 11 then w.getLsbD (k + 20)
      else if k = 11 then w.getLsbD 7 else w.getLsbD 31 := by
  simp only [immB, offBOf, BitVec.getLsbD_signExtend, BitVec.msb_eq_getLsbD_last, BitVec.getLsbD_append,
    BitVec.getLsbD_extractLsb', BitVec.getLsbD_zero]
  grind

theorem getLsbD_immU : (immU (immUOf w)).getLsbD k = if k < 12 then false else w.getLsbD k := by
  simp only [immU, immUOf, BitVec.getLsbD_append, BitVec.getLsbD_extractLsb', BitVec.getLsbD_zero]
  grind

theorem getLsbD_immJ :
    (immJ (offJOf w)).getLsbD k =
      if k = 0 then false else if k < 11 then w.getLsbD (k + 20) else if k = 11 then w.getLsbD 20
      else if k < 20 then w.getLsbD k else w.getLsbD 31 := by
  simp only [immJ, offJOf, BitVec.getLsbD_signExtend, BitVec.msb_eq_getLsbD_last, BitVec.getLsbD_append,
    BitVec.getLsbD_extractLsb', BitVec.getLsbD_zero]
  grind

end Bits

/-! ### The range of each immediate (R108 to R110, R112) -/

theorem toInt_signExtend_range (imm : BitVec 12) :
    -2048 ≤ (imm.signExtend 32).toInt ∧ (imm.signExtend 32).toInt ≤ 2047 := by
  rw [BitVec.toInt_signExtend_of_le (by decide)]
  exact ⟨imm.le_toInt, Int.le_of_lt_add_one imm.toInt_lt⟩

/-- An offset over a zero bit is twice the number above that bit. -/
theorem toInt_signExtend_append_zero {n : Nat} (a : BitVec n) (hn : n + 1 ≤ 32) :
    ((a ++ 0#1).signExtend 32).toInt = 2 * a.toInt := by
  rw [BitVec.toInt_signExtend_of_le hn, BitVec.toInt_append_zero, pow_one]

theorem toInt_immB_range (w : Word) : -4096 ≤ (immB (offBOf w)).toInt ∧ (immB (offBOf w)).toInt ≤ 4094 := by
  obtain ⟨a, ha⟩ : ∃ a : BitVec 12, offBOf w = a ++ 0#1 := ⟨_, rfl⟩
  have hlow : -2048 ≤ a.toInt := a.le_toInt
  have hhigh : a.toInt < 2048 := a.toInt_lt
  rw [immB, ha, toInt_signExtend_append_zero a (by decide)]
  omega

theorem toInt_immJ_range (w : Word) : -1048576 ≤ (immJ (offJOf w)).toInt ∧ (immJ (offJOf w)).toInt ≤ 1048574 := by
  obtain ⟨a, ha⟩ : ∃ a : BitVec 20, offJOf w = a ++ 0#1 := ⟨_, rfl⟩
  have hlow : -524288 ≤ a.toInt := a.le_toInt
  have hhigh : a.toInt < 524288 := a.toInt_lt
  rw [immJ, ha, toInt_signExtend_append_zero a (by decide)]
  omega

end Sys2Proof.Machine
end

section
/-! The statements of the encoding (30_encoding.md). -/

namespace Sys2Proof.Machine

/-- Settles O1, by the field lemmas of Laws/Encoding.lean for each constructor. -/
theorem decodeOfEncodeIsTheInstruction : Obligations.DecodeOfEncodeIsTheInstruction := decode_encode

/-- Settles O2: every arm of the decoder reads the fields its format is built from. -/
theorem encodeOfDecodeIsTheWord : Obligations.EncodeOfDecodeIsTheWord :=
  fun _ _ h => ⟨encode_of_decode_ok h, wf_of_decode_ok h⟩

/-- Settles O4, clause by clause of R119. -/
theorem decodeFollowsTheProcedure : Obligations.DecodeFollowsTheProcedure := by
  refine ⟨rfl, fun w s => ?_⟩
  split
  next hlow =>
    refine traps_of_opcode (fun hmem => hlow ?_) s
    rw [← extractLsb'_opcodeOf w (by decide)]
    exact (executedOpcodes_low _ hmem).1
  next =>
  split
  next hmid =>
    refine traps_of_opcode (fun hmem => (executedOpcodes_low _ hmem).2 ?_) s
    rwa [extractLsb'_opcodeOf w (by decide)]
  next =>
  split
  next hany =>
    obtain ⟨row, hmem, hcovers⟩ := List.any_eq_true.1 hany
    obtain ⟨i, hd, rfl⟩ := exists_decode_of_covers hmem hcovers
    exact ⟨i, i.row, hmem, hcovers, i.row_mnemonic, encode_of_decode_ok hd, hd, runWord_of_decode_ok hd s,
      fun other hother hc => (row_eq_of_covers hd hother hc).symm⟩
  next hnone =>
  have hrow : ∀ r ∈ executedRows, r.covers w ≠ true := fun r hr hc => hnone (List.any_eq_true.2 ⟨r, hr, hc⟩)
  split
  next hfence =>
    obtain ⟨hop, h3⟩ := hfence
    obtain ⟨i, hd, hl⟩ | hd := decode_fence_or_reservedFence hop h3
    · exact absurd (encode_of_decode_ok hd ▸ i.row_covers) (hrow i.row (row_mem_executedRows hl))
    · exact runWord_of_decode_reservedFence hd s
  next hother =>
    refine traps_of_no_executed_row hrow (fun hd => hother ?_) s
    obtain ⟨hop, h3⟩ := (decode_eq_reservedFence_iff w).1 hd
    exact ⟨hop, h3.imp And.left And.left⟩

/-- Settles O5: the decoder reads from the word one instruction, which has one row. -/
theorem executedRowsAreDisjoint : Obligations.ExecutedRowsAreDisjoint := by
  intro w r q hr hq hrw hqw
  obtain ⟨i, hd, hrow⟩ := exists_decode_of_covers hr hrw
  exact hrow.symm.trans (row_eq_of_covers hd hq hqw)

/-- Settles O6: the word is the encoding of the instruction, and an encoding lies in its row. -/
theorem decodedWordsLieInTheirRow : Obligations.DecodedWordsLieInTheirRow := by
  intro w i h
  refine ⟨i.row, i.row_mem, i.row_mnemonic, ?_⟩
  rw [← encode_of_decode_ok h]
  exact i.row_covers

/-- Settles O7: each executed row fixes its major opcode, so no executed row covers the word. -/
theorem majorOpcodesWithoutAnInstructionTrap : Obligations.MajorOpcodesWithoutAnInstructionTrap := by
  refine ⟨fun w s h => traps_of_opcode h s, fun s => ⟨traps_of_opcode ?_ s, traps_of_opcode ?_ s⟩⟩
  · decide
  · decide

/-- Settles O8: the decoder refuses exactly the reserved words, and every other word answers. -/
theorem reservedFenceWordsAreRefused : Obligations.ReservedFenceWordsAreRefused := by
  intro w s
  rw [← decode_eq_reservedFence_iff]
  refine ⟨fun hd => runWord_of_decode_reservedFence hd s, fun hne => ?_⟩
  cases hd : decode w with
  | ok i =>
    rw [runWord_of_decode_ok hd]
    exact answers_exec i s
  | error e =>
    cases e with
    | illegal => exact ⟨_, runWord_of_decode_illegal hd s⟩
    | reservedFence => exact absurd hd hne
    | truncated => exact ⟨_, runWord_of_decode_truncated hd s⟩

/-- Settles O10, immediate by immediate. -/
theorem immediatesComeFromTheirInstructionBits : Obligations.ImmediatesComeFromTheirInstructionBits := fun w =>
  ⟨fun _ => getLsbD_immI w, toInt_signExtend_range (immIOf w), fun _ => getLsbD_immS w,
    toInt_signExtend_range (immSOf w), fun _ => getLsbD_immB w, toInt_immB_range w, fun _ => getLsbD_immU w,
    fun _ => getLsbD_immJ w, toInt_immJ_range w⟩

/-- Settles O3: the decoder runs on each of the printed words. -/
theorem wordsOfTheSpecDecode : Obligations.WordsOfTheSpecDecode :=
  ⟨rfl, rfl, rfl, rfl, rfl, rfl, rfl, rfl, rfl, rfl, rfl, rfl, rfl, rfl, rfl, rfl, rfl⟩

end Sys2Proof.Machine
end

section
/-! SUPPORT. The upper and lower part of a 32-bit value (31_assembler.md R157). -/

namespace Sys2Proof.Machine

/-- The sign of the lower part, as arithmetic on the value. -/
theorem getLsbD_eleven_iff (d : Word) : d.getLsbD 11 = true ↔ 2048 ≤ d.toNat % 4096 := by
  rw [← BitVec.testBit_toNat, Nat.testBit_eq_decide_div_mod_eq, decide_eq_true_iff]
  omega

theorem msb_lo12 (d : Word) : (lo12 d).msb = d.getLsbD 11 := by
  simp [lo12, BitVec.msb_eq_getLsbD_last]

theorem toNat_hi20 (d : Word) : (hi20 d).toNat = (d.toNat + 2048) % 4294967296 / 4096 := by
  simp only [hi20, BitVec.extractLsb'_toNat, BitVec.toNat_add, BitVec.toNat_ofNat, Nat.shiftRight_eq_div_pow]
  omega

/-- Sign extension subtracts 0x1000 from the lower part exactly when d[11] = 1. -/
theorem toNat_signExtend_lo12 (d : Word) :
    ((lo12 d).signExtend 32).toNat = d.toNat % 4096 + if d.getLsbD 11 then 4294963200 else 0 := by
  have hlow : d.toNat % 4096 < 4294967296 := by omega
  rw [BitVec.toNat_signExtend, msb_lo12]
  simp [lo12, hlow]

/-- The +0x800 carries into the upper part exactly when d[11] = 1. -/
theorem hi20_eq_extract_add (d : Word) :
    hi20 d = d.extractLsb' 12 20 + if d.getLsbD 11 then 1#20 else 0#20 := by
  have hd := d.isLt
  apply BitVec.eq_of_toNat_eq
  simp only [toNat_hi20, BitVec.toNat_add, BitVec.extractLsb'_toNat, Nat.shiftRight_eq_div_pow, getLsbD_eleven_iff]
  split
  next hcarry =>
    rw [BitVec.toNat_ofNat]
    omega
  next hnone =>
    rw [BitVec.toNat_ofNat]
    omega

/-- What the sign of the lower part takes away, the correction of the upper part has added. -/
theorem append_hi20_add_signExtend_lo12 (d : Word) : (hi20 d ++ 0#12) + (lo12 d).signExtend 32 = d := by
  have hd := d.isLt
  have hupper : (hi20 d ++ 0#12).toNat = (d.toNat + 2048) % 4294967296 / 4096 * 4096 := by
    rw [BitVec.toNat_append, toNat_hi20, Nat.shiftLeft_eq]
    simp
  apply BitVec.eq_of_toNat_eq
  simp only [BitVec.toNat_add, hupper, toNat_signExtend_lo12, getLsbD_eleven_iff]
  split
  next hnegative => omega
  next hnonnegative => omega

end Sys2Proof.Machine
end

section
/-! SUPPORT. Instructions run one after another, and the instructions that the expansions of 31_assembler.md R153 are
made of. -/

namespace Sys2Proof.Machine

/-! ### One instruction -/

theorem SameMemory.trans {s t u : State} (hst : SameMemory s t) (htu : SameMemory t u) : SameMemory s u := by
  obtain ⟨hbytes, hstale⟩ := hst
  obtain ⟨hbytes', hstale'⟩ := htu
  exact ⟨fun a => (hbytes' a).trans (hbytes a), hstale'.trans hstale⟩

/-- Writing a register and going on to `next` changes nothing else. -/
theorem writesAndGoesTo_retireTo_writeX (s : State) (rd : Reg) (v next : Word) :
    WritesAndGoesTo s (.next (retireTo (writeX s rd v) next)) rd v next := by
  obtain ⟨t, ht, hregs, hmem, -⟩ := writes_writeAndRetire s rd v
  cases ht
  exact ⟨_, rfl, hregs, hmem, retires_retireTo_writeX s rd v next⟩

/-- The state after an instruction that writes rd, with the value at rd and the frame of the registers apart. -/
theorem WritesAndGoesTo.completes {s : State} {r : StepResult} {rd : Reg} {v next : Word}
    (h : WritesAndGoesTo s r rd v next) : ∃ t, r = .next t ∧ (rd ≠ 0#5 → readX t rd = v) ∧
      (∀ q, q ≠ rd → readX t q = readX s q) ∧ SameMemory s t ∧ Retires s t next := by
  obtain ⟨t, ht, hregs, hmem, hretires⟩ := h
  refine ⟨t, ht, fun hrd => ?_, fun q hq => ?_, hmem, hretires⟩
  · rw [hregs rd, if_neg hrd, if_pos rfl]
  · rw [hregs q, if_neg hq, ite_eq_right_iff]
    rintro rfl
    exact (readX_zero s).symm

/-- A write to x0 is no write (10_state.md R21). -/
theorem Writes.onlyGoesTo {s : State} {r : StepResult} {v : Word} (h : Writes s r 0#5 v) :
    OnlyGoesTo s r (s.pc + 4#32) := by
  obtain ⟨t, ht, -, hother, hmem, hretires⟩ := WritesAndGoesTo.completes h
  refine ⟨t, ht, fun q => ?_, hmem, hretires⟩
  by_cases hq : q = 0#5
  · rw [hq, readX_zero, readX_zero]
  · exact hother q hq

theorem writes_exec_lui (s : State) (rd : Reg) (imm : BitVec 20) :
    Writes s (exec (.lui rd imm) s) rd (imm ++ 0#12) :=
  writes_writeAndRetire s rd _

theorem writes_exec_auipc (s : State) (rd : Reg) (imm : BitVec 20) :
    Writes s (exec (.auipc rd imm) s) rd (s.pc + (imm ++ 0#12)) :=
  writes_writeAndRetire s rd _

theorem writes_exec_addi (s : State) (rd rs1 : Reg) (imm : BitVec 12) :
    Writes s (exec (.addi rd rs1 imm) s) rd (readX s rs1 + imm.signExtend 32) :=
  writes_writeAndRetire s rd _

theorem writes_exec_xori (s : State) (rd rs1 : Reg) (imm : BitVec 12) :
    Writes s (exec (.xori rd rs1 imm) s) rd (readX s rs1 ^^^ imm.signExtend 32) :=
  writes_writeAndRetire s rd _

theorem writes_exec_sub (s : State) (rd rs1 rs2 : Reg) :
    Writes s (exec (.sub rd rs1 rs2) s) rd (readX s rs1 - readX s rs2) :=
  writes_writeAndRetire s rd _

/-- An aligned address has bit 0 clear already. -/
theorem and_clearBitZero_of_fourAligned {a : Word} (h : FourAligned a) : a &&& 0xFFFFFFFE#32 = a := by
  have hbit : a.getLsbD 0 = false := by
    rw [← BitVec.testBit_toNat, Nat.testBit_zero, decide_eq_false_iff_not]
    have h4 : a.toNat % 4 = 0 := h
    omega
  have hmask : ∀ k < 32, (0xFFFFFFFE#32).getLsbD k = decide (k ≠ 0) := by decide
  apply BitVec.eq_of_getLsbD_eq
  intro k hk
  rw [BitVec.getLsbD_and, hmask k hk]
  by_cases hk0 : k = 0
  · rw [hk0, hbit, Bool.false_and]
  · rw [decide_eq_true hk0, Bool.and_true]

/-- JAL and JALR to an aligned target (41_control_transfer.md R241 to R243). -/
theorem writesAndGoesTo_jumpAndLink {s : State} {target : Word} (rd : Reg) (h : FourAligned target) :
    WritesAndGoesTo s (jumpAndLink s rd target) rd (s.pc + 4#32) target := by
  have haligned : targetMisaligned target = false :=
    (targetMisaligned_eq_false_iff target).2 ((fourAligned_iff target).1 h)
  rw [jumpAndLink, haligned]
  exact writesAndGoesTo_retireTo_writeX s rd _ target

theorem writesAndGoesTo_exec_jalr {s : State} {rs1 : Reg} {imm : BitVec 12} (rd : Reg)
    (h : FourAligned (readX s rs1 + imm.signExtend 32)) :
    WritesAndGoesTo s (exec (.jalr rd rs1 imm) s) rd (s.pc + 4#32) (readX s rs1 + imm.signExtend 32) := by
  have htarget : jalrTarget (readX s rs1) imm = readX s rs1 + imm.signExtend 32 :=
    and_clearBitZero_of_fourAligned h
  have hexec : exec (.jalr rd rs1 imm) s = jumpAndLink s rd (jalrTarget (readX s rs1) imm) := rfl
  rw [hexec, htarget]
  exact writesAndGoesTo_jumpAndLink rd h

/-! ### The results of SLT and SLTU (40_integer_computational.md R215, R216) -/

theorem boolWord_ltSigned (a b : Word) : boolWord (ltSigned a b) = if a.toInt < b.toInt then 1#32 else 0#32 := by
  simp [boolWord, ltSigned]

theorem boolWord_ltUnsigned (a b : Word) :
    boolWord (ltUnsigned a b) = if a.toNat < b.toNat then 1#32 else 0#32 := by
  simp [boolWord, ltUnsigned]

theorem writes_exec_slt (s : State) (rd rs1 rs2 : Reg) : Writes s (exec (.slt rd rs1 rs2) s) rd
    (if (readX s rs1).toInt < (readX s rs2).toInt then 1#32 else 0#32) := by
  rw [← boolWord_ltSigned]
  exact writes_writeAndRetire s rd _

theorem writes_exec_sltu (s : State) (rd rs1 rs2 : Reg) : Writes s (exec (.sltu rd rs1 rs2) s) rd
    (if (readX s rs1).toNat < (readX s rs2).toNat then 1#32 else 0#32) := by
  rw [← boolWord_ltUnsigned]
  exact writes_writeAndRetire s rd _

theorem writes_exec_sltiu (s : State) (rd rs1 : Reg) (imm : BitVec 12) : Writes s (exec (.sltiu rd rs1 imm) s) rd
    (if (readX s rs1).toNat < (imm.signExtend 32).toNat then 1#32 else 0#32) := by
  rw [← boolWord_ltUnsigned]
  exact writes_writeAndRetire s rd _

/-! ### A list of instructions -/

@[simp] theorem runAll_nil (s : State) : runAll [] s = .next s := rfl

/-- An instruction that completes hands its next state to the rest of the list. -/
theorem runAll_cons_of_next {i : Instr} {s t : State} (rest : List Instr) (h : exec i s = .next t)
    (ht : t.trap = none) : runAll (i :: rest) s = runAll rest t := by
  simp only [runAll, h, ht, Option.isNone_none, if_true]

/-- The run ends in a state with `v` in rd, and every other register and memory as in `s`. -/
def LeavesOnly (s : State) (r : StepResult) (rd : Reg) (v : Word) : Prop :=
  ∃ t, r = .next t ∧ readX t rd = v ∧ (∀ q, q ≠ rd → readX t q = readX s q) ∧ SameMemory s t

theorem leavesOnly_nil (s : State) (rd : Reg) : LeavesOnly s (runAll [] s) rd (readX s rd) :=
  ⟨s, rfl, rfl, fun _ _ => rfl, fun _ => rfl, rfl⟩

/-- An instruction that writes rd, before a list that changes no other register. -/
theorem Writes.leavesOnly_cons {i : Instr} {rest : List Instr} {s : State} {rd : Reg} {u v : Word}
    (h : Writes s (exec i s) rd u) (hrun : s.trap = none) (hrd : rd ≠ 0#5)
    (hrest : ∀ t, t.trap = none → readX t rd = u → LeavesOnly t (runAll rest t) rd v) :
    LeavesOnly s (runAll (i :: rest) s) rd v := by
  obtain ⟨t, hexec, hvalue, hother, hmem, -, -, -, -, htrap, -⟩ := WritesAndGoesTo.completes h
  have hrunt : t.trap = none := htrap.trans hrun
  obtain ⟨w, hw, hleft, hwother, hwmem⟩ := hrest t hrunt (hvalue hrd)
  rw [runAll_cons_of_next rest hexec hrunt]
  exact ⟨w, hw, hleft, fun q hq => (hwother q hq).trans (hother q hq), hmem.trans hwmem⟩

/-- One instruction that writes rd. -/
theorem Writes.leavesOnly {i : Instr} {s : State} {rd : Reg} {v : Word} (h : Writes s (exec i s) rd v)
    (hrun : s.trap = none) (hrd : rd ≠ 0#5) : LeavesOnly s (runAll [i] s) rd v :=
  h.leavesOnly_cons hrun hrd fun t _ ht => ht ▸ leavesOnly_nil t rd

/-- An instruction that writes rd, then ADDI on rd: how `la` and `li` build a value (R153, R158). -/
theorem Writes.leavesOnly_addi {i : Instr} {s : State} {rd : Reg} {u : Word} (imm : BitVec 12)
    (h : Writes s (exec i s) rd u) (hrun : s.trap = none) (hrd : rd ≠ 0#5) :
    LeavesOnly s (runAll [i, .addi rd rd imm] s) rd (u + imm.signExtend 32) := by
  refine h.leavesOnly_cons hrun hrd fun t htrap ht => ?_
  rw [← ht]
  exact (writes_exec_addi t rd rd imm).leavesOnly htrap hrd

/-- `la` (R153, R157). -/
theorem leavesOnly_la {s : State} {rd : Reg} (d : Word) (hrun : s.trap = none) (hrd : rd ≠ 0#5) :
    LeavesOnly s (runAll (expandPseudo (.la rd d)) s) rd (s.pc + d) := by
  have h := (writes_exec_auipc s rd (hi20 d)).leavesOnly_addi (lo12 d) hrun hrd
  rwa [BitVec.add_assoc, append_hi20_add_signExtend_lo12] at h

/-- `li`, in each of its three forms (R158). -/
theorem leavesOnly_li {s : State} {rd : Reg} (v : Word) (hrun : s.trap = none) (hrd : rd ≠ 0#5) :
    LeavesOnly s (runAll (expandPseudo (.li rd v)) s) rd v := by
  have hbuilt := append_hi20_add_signExtend_lo12 v
  rw [expandPseudo, expandLi]
  split
  next hfits =>
    have h := (writes_exec_addi s rd 0#5 (lo12 v)).leavesOnly hrun hrd
    rwa [readX_zero, BitVec.zero_add, hfits] at h
  next =>
  split
  next hlow =>
    have h := (writes_exec_lui s rd (hi20 v)).leavesOnly hrun hrd
    have hupper : hi20 v ++ 0#12 = v := by simpa [hlow] using hbuilt
    rwa [hupper] at h
  next =>
    have h := (writes_exec_lui s rd (hi20 v)).leavesOnly_addi (lo12 v) hrun hrd
    rwa [hbuilt] at h

end Sys2Proof.Machine
end

section
/-! The statements of the assembler (31_assembler.md). -/

namespace Sys2Proof.Machine

/-- Settles O57. -/
theorem highAndLowPartsRebuildTheDisplacement : Obligations.HighAndLowPartsRebuildTheDisplacement := fun d =>
  ⟨append_hi20_add_signExtend_lo12 d, hi20_eq_extract_add d⟩

/-- Settles O58. -/
theorem loadAddressAndLoadImmediateBuildTheirValue : Obligations.LoadAddressAndLoadImmediateBuildTheirValue :=
  fun _ _ v hrun hrd => ⟨leavesOnly_la v hrun hrd, leavesOnly_li v hrun hrd⟩

/-- Settles O59: each pseudo-instruction is one instruction, whose result is rewritten to what the table says. -/
theorem oneWordPseudoInstructionsMeanTheirTable : Obligations.OneWordPseudoInstructionsMeanTheirTable := by
  intro s rd rs
  have hmv : Writes s (exec (.addi rd rs 0#12) s) rd (readX s rs) := by
    simpa using writes_exec_addi s rd rs 0#12
  have hnot : Writes s (exec (.xori rd rs 0xFFF#12) s) rd (~~~readX s rs) := by
    have hmask : (0xFFF#12).signExtend 32 = BitVec.allOnes 32 := by decide
    rw [← BitVec.xor_allOnes, ← hmask]
    exact writes_exec_xori s rd rs _
  have hneg : Writes s (exec (.sub rd 0#5 rs) s) rd (-readX s rs) := by
    simpa using writes_exec_sub s rd 0#5 rs
  have hseqz : Writes s (exec (.sltiu rd rs 1#12) s) rd (if readX s rs = 0#32 then 1#32 else 0#32) := by
    have hone : ((1#12).signExtend 32).toNat = 1 := by decide
    simpa [hone, BitVec.toNat_eq] using writes_exec_sltiu s rd rs 1#12
  have hsnez : Writes s (exec (.sltu rd 0#5 rs) s) rd (if readX s rs ≠ 0#32 then 1#32 else 0#32) := by
    simpa [Nat.pos_iff_ne_zero, BitVec.toNat_eq] using writes_exec_sltu s rd 0#5 rs
  have hsltz : Writes s (exec (.slt rd rs 0#5) s) rd (if (readX s rs).toInt < 0 then 1#32 else 0#32) :=
    writes_exec_slt s rd rs 0#5
  have hsgtz : Writes s (exec (.slt rd 0#5 rs) s) rd (if (readX s rs).toInt > 0 then 1#32 else 0#32) :=
    writes_exec_slt s rd 0#5 rs
  exact ⟨⟨_, rfl, rfl, (writes_exec_addi s 0#5 0#5 0#12).onlyGoesTo⟩, ⟨_, rfl, hmv⟩, ⟨_, rfl, hnot⟩,
    ⟨_, rfl, hneg⟩, ⟨_, rfl, hseqz⟩, ⟨_, rfl, hsnez⟩, ⟨_, rfl, hsltz⟩, ⟨_, rfl, hsgtz⟩⟩

/-- Settles O60: AUIPC leaves the upper part in x6, and JALR adds the lower part to it and links the next address. -/
theorem callReachesAnyAlignedTarget : Obligations.CallReachesAnyAlignedTarget := by
  intro s d hrun haligned
  obtain ⟨t, hauipc, hupper, hother, hmem, hpc, -, -, -, htrap, -⟩ :=
    WritesAndGoesTo.completes (writes_exec_auipc s 6#5 (hi20 d))
  have htarget : readX t 6#5 + (lo12 d).signExtend 32 = s.pc + d := by
    rw [hupper (by decide), BitVec.add_assoc, append_hi20_add_signExtend_lo12]
  obtain ⟨u, hjalr, hlink, huother, humem, hupc, -, -, -, hutrap, -⟩ :=
    (writesAndGoesTo_exec_jalr 1#5 (htarget ▸ haligned)).completes
  have hrunt : t.trap = none := htrap.trans hrun
  have hrunu : u.trap = none := hutrap.trans hrunt
  have hruns : runAll (expandPseudo (.call d)) s = .next u := by
    rw [expandPseudo, runAll_cons_of_next _ hauipc hrunt, runAll_cons_of_next _ hjalr hrunu, runAll_nil]
  have hreturn : readX u 1#5 = s.pc + 8#32 := by
    rw [hlink (by decide), hpc, BitVec.add_assoc]
    rfl
  exact ⟨u, hruns, hrunu, hupc.trans htarget, hreturn, fun q h1 h6 => (huother q h1).trans (hother q h6),
    hmem.trans humem⟩

end Sys2Proof.Machine
end

section
/-! SUPPORT. The results of the integer computational instructions (40_integer_computational.md): the value each one
writes, and the shifts bit by bit and as a division. -/

namespace Sys2Proof.Machine

/-! ### Shifts, bit by bit (R208 to R210, R220 to R222) -/

section ShiftBits

variable (v : Word) (n : Nat) {k : Nat}

/-- A logical right shift brings zeros in from above. -/
theorem getLsbD_ushiftRight_word : (v >>> n).getLsbD k = if k + n < 32 then v.getLsbD (k + n) else false := by
  rw [BitVec.getLsbD_ushiftRight, Nat.add_comm n k]
  split
  next => rfl
  next hout => exact BitVec.getLsbD_of_ge v _ (Nat.le_of_not_lt hout)

variable (hk : k < 32)

include hk

/-- A left shift brings zeros in from below. -/
theorem getLsbD_shiftLeft_word : (v <<< n).getLsbD k = if k < n then false else v.getLsbD (k - n) := by
  rw [BitVec.getLsbD_shiftLeft, decide_eq_true hk, Bool.true_and]
  split
  next hlow => rw [decide_eq_true hlow, Bool.not_true, Bool.false_and]
  next hhigh => rw [decide_eq_false hhigh, Bool.not_false, Bool.true_and]

/-- An arithmetic right shift brings copies of the sign bit in from above. -/
theorem getLsbD_sshiftRight_word :
    (v.sshiftRight n).getLsbD k = if k + n < 32 then v.getLsbD (k + n) else v.getLsbD 31 := by
  rw [BitVec.getLsbD_sshiftRight, decide_eq_false (Nat.not_le.2 hk), Bool.not_false, Bool.true_and, Nat.add_comm n k]
  rfl

end ShiftBits

/-- An arithmetic right shift is a division rounding down (R210). -/
theorem toInt_sshiftRight_eq_div (v : Word) (n : Nat) : (v.sshiftRight n).toInt = v.toInt / 2 ^ n := by
  rw [BitVec.toInt_sshiftRight, Int.shiftRight_eq_div_pow, Nat.cast_pow, Nat.cast_ofNat]

/-- The amount of a register shift is the register's value modulo 32 (R201). -/
theorem shiftAmountReg_eq_mod (v : Word) : shiftAmountReg v = v.toNat % 32 := by
  rw [shiftAmountReg, BitVec.extractLsb'_toNat, Nat.shiftRight_zero]

/-! ### What each instruction writes -/

section Immediate

variable (s : State) (rd rs1 : Reg)

theorem writes_exec_slti (imm : BitVec 12) : Writes s (exec (.slti rd rs1 imm) s) rd
    (if (readX s rs1).toInt < (imm.signExtend 32).toInt then 1#32 else 0#32) := by
  rw [← boolWord_ltSigned]
  exact writes_writeAndRetire s rd _

theorem writes_exec_ori (imm : BitVec 12) :
    Writes s (exec (.ori rd rs1 imm) s) rd (readX s rs1 ||| imm.signExtend 32) :=
  writes_writeAndRetire s rd _

theorem writes_exec_andi (imm : BitVec 12) :
    Writes s (exec (.andi rd rs1 imm) s) rd (readX s rs1 &&& imm.signExtend 32) :=
  writes_writeAndRetire s rd _

theorem writes_exec_slli (shamt : BitVec 5) :
    Writes s (exec (.slli rd rs1 shamt) s) rd (readX s rs1 <<< shamt.toNat) :=
  writes_writeAndRetire s rd _

theorem writes_exec_srli (shamt : BitVec 5) :
    Writes s (exec (.srli rd rs1 shamt) s) rd (readX s rs1 >>> shamt.toNat) :=
  writes_writeAndRetire s rd _

theorem writes_exec_srai (shamt : BitVec 5) :
    Writes s (exec (.srai rd rs1 shamt) s) rd ((readX s rs1).sshiftRight shamt.toNat) :=
  writes_writeAndRetire s rd _

end Immediate

section Register

variable (s : State) (rd rs1 rs2 : Reg)

theorem writes_exec_add : Writes s (exec (.add rd rs1 rs2) s) rd (readX s rs1 + readX s rs2) :=
  writes_writeAndRetire s rd _

theorem writes_exec_and : Writes s (exec (.and rd rs1 rs2) s) rd (readX s rs1 &&& readX s rs2) :=
  writes_writeAndRetire s rd _

theorem writes_exec_or : Writes s (exec (.or rd rs1 rs2) s) rd (readX s rs1 ||| readX s rs2) :=
  writes_writeAndRetire s rd _

theorem writes_exec_xor : Writes s (exec (.xor rd rs1 rs2) s) rd (readX s rs1 ^^^ readX s rs2) :=
  writes_writeAndRetire s rd _

theorem writes_exec_sll :
    Writes s (exec (.sll rd rs1 rs2) s) rd (readX s rs1 <<< ((readX s rs2).toNat % 32)) := by
  rw [← shiftAmountReg_eq_mod]
  exact writes_writeAndRetire s rd _

theorem writes_exec_srl :
    Writes s (exec (.srl rd rs1 rs2) s) rd (readX s rs1 >>> ((readX s rs2).toNat % 32)) := by
  rw [← shiftAmountReg_eq_mod]
  exact writes_writeAndRetire s rd _

theorem writes_exec_sra :
    Writes s (exec (.sra rd rs1 rs2) s) rd ((readX s rs1).sshiftRight ((readX s rs2).toNat % 32)) := by
  rw [← shiftAmountReg_eq_mod]
  exact writes_writeAndRetire s rd _

end Register

end Sys2Proof.Machine
end

section
/-! SUPPORT. Branches from their condition on (41_control_transfer.md R243, R250), and the overflow checks that end in
one (40_integer_computational.md R224). -/

namespace Sys2Proof.Machine

/-! ### Branches -/

/-- Going on to `next` without writing a register changes nothing else. -/
theorem onlyGoesTo_retireTo (s : State) (next : Word) : OnlyGoesTo s (.next (retireTo s next)) next :=
  ⟨_, rfl, fun _ => rfl, ⟨fun _ => rfl, rfl⟩, retires_retireTo_self s next⟩

theorem branches_branchIf (s : State) (taken : Bool) (off : BitVec 13) :
    Branches s (branchIf s taken off) (taken = true) off := by
  refine ⟨?_, ?_, ?_⟩
  · rintro rfl haligned
    have htarget : targetMisaligned (s.pc + immB off) = false :=
      (targetMisaligned_eq_false_iff _).2 ((fourAligned_iff _).1 haligned)
    rw [branchIf, if_pos rfl, htarget]
    exact onlyGoesTo_retireTo s _
  · rintro rfl hmisaligned
    have htarget : targetMisaligned (s.pc + immB off) = true :=
      (targetMisaligned_iff _).2 fun h => hmisaligned ((fourAligned_iff _).2 h)
    rw [branchIf, if_pos rfl, htarget]
    exact traps_takeException s _ _
  · intro hnot
    rw [branchIf, if_neg hnot]
    exact onlyGoesTo_retireTo s _

theorem branches_exec_bltu (s : State) (rs1 rs2 : Reg) (off : BitVec 13) :
    Branches s (exec (.bltu rs1 rs2 off) s) ((readX s rs1).toNat < (readX s rs2).toNat) off := by
  have h := branches_branchIf s (condLtu (readX s rs1) (readX s rs2)) off
  rwa [condLtu, ltUnsigned, decide_eq_true_eq] at h

theorem branches_exec_blt (s : State) (rs1 rs2 : Reg) (off : BitVec 13) :
    Branches s (exec (.blt rs1 rs2 off) s) ((readX s rs1).toInt < (readX s rs2).toInt) off := by
  have h := branches_branchIf s (condLt (readX s rs1) (readX s rs2)) off
  rwa [condLt, ltSigned, decide_eq_true_eq] at h

theorem branches_exec_bne (s : State) (rs1 rs2 : Reg) (off : BitVec 13) :
    Branches s (exec (.bne rs1 rs2 off) s) (readX s rs1 ≠ readX s rs2) off := by
  have h := branches_branchIf s (condNe (readX s rs1) (readX s rs2)) off
  rwa [condNe, bne_iff_ne] at h

/-! ### A list that ends in a branch -/

/-- The run ends at `next` with no trap pending. -/
def EndsAt (r : StepResult) (next : Word) : Prop := ∃ t, r = .next t ∧ t.trap = none ∧ t.pc = next

/-- An instruction that writes rd, before a list that ends at `next`. -/
theorem Writes.endsAt_cons {i : Instr} {rest : List Instr} {s : State} {rd : Reg} {v next : Word}
    (h : Writes s (exec i s) rd v) (hrun : s.trap = none) (hrd : rd ≠ 0#5)
    (hrest : ∀ t, t.trap = none → t.pc = s.pc + 4#32 → readX t rd = v →
      (∀ q, q ≠ rd → readX t q = readX s q) → EndsAt (runAll rest t) next) :
    EndsAt (runAll (i :: rest) s) next := by
  obtain ⟨t, hexec, hvalue, hother, -, hpc, -, -, -, htrap, -⟩ := WritesAndGoesTo.completes h
  have hrunt : t.trap = none := htrap.trans hrun
  rw [runAll_cons_of_next rest hexec hrunt]
  exact hrest t hrunt hpc (hvalue hrd) hother

/-- A branch at the end of a list, to an aligned target. -/
theorem Branches.endsAt {i : Instr} {s : State} {taken : Prop} [Decidable taken] {off : BitVec 13}
    (h : Branches s (exec i s) taken off) (hrun : s.trap = none)
    (haligned : FourAligned (s.pc + off.signExtend 32)) :
    EndsAt (runAll [i] s) (if taken then s.pc + off.signExtend 32 else s.pc + 4#32) := by
  obtain ⟨htaken, -, hnot⟩ := h
  have hgoes : OnlyGoesTo s (exec i s) (if taken then s.pc + off.signExtend 32 else s.pc + 4#32) := by
    split
    next hc => exact htaken hc haligned
    next hc => exact hnot hc
  obtain ⟨t, hexec, -, -, hpc, -, -, -, htrap, -⟩ := hgoes
  have hrunt : t.trap = none := htrap.trans hrun
  rw [runAll_cons_of_next [] hexec hrunt]
  exact ⟨t, rfl, hrunt, hpc⟩

/-! ### When an addition overflows -/

/-- The wrapped sum is below an operand exactly when the sum carries out. -/
theorem toNat_add_lt_left_iff (a b : Word) : (a + b).toNat < a.toNat ↔ 4294967296 ≤ a.toNat + b.toNat := by
  rw [BitVec.toNat_add]
  omega

/-- The signed sum is the exact one, or wrapped once at either end of the range. -/
theorem toInt_add_cases (a b : Word) :
    (-2147483648 ≤ a.toInt + b.toInt ∧ a.toInt + b.toInt < 2147483648 ∧ (a + b).toInt = a.toInt + b.toInt) ∨
    (2147483648 ≤ a.toInt + b.toInt ∧ (a + b).toInt = a.toInt + b.toInt - 4294967296) ∨
    (a.toInt + b.toInt < -2147483648 ∧ (a + b).toInt = a.toInt + b.toInt + 4294967296) := by
  have hsum : (a + b).toInt = (a.toInt + b.toInt).bmod 4294967296 := BitVec.toInt_add a b
  have ha : a.toInt < 2147483648 := a.toInt_lt
  have ha' : -2147483648 ≤ a.toInt := a.le_toInt
  have hb : b.toInt < 2147483648 := b.toInt_lt
  have hb' : -2147483648 ≤ b.toInt := b.le_toInt
  rw [hsum, Int.bmod_def]
  omega

/-- The wrapped sum is below an operand exactly when the other is negative and nothing overflows below, or when the sum
overflows above: what the comparisons of the signed checks tell. -/
theorem toInt_add_lt_left_iff (a b : Word) : (a + b).toInt < a.toInt ↔
    (b.toInt < 0 ∧ -2147483648 ≤ a.toInt + b.toInt) ∨ 2147483648 ≤ a.toInt + b.toInt := by
  have hb : b.toInt < 2147483648 := b.toInt_lt
  have hb' : -2147483648 ≤ b.toInt := b.le_toInt
  obtain ⟨hlow, hhigh, hsum⟩ | ⟨hover, hsum⟩ | ⟨hunder, hsum⟩ := toInt_add_cases a b
  all_goals omega

theorem one_or_zero_ne_iff (p q : Prop) [Decidable p] [Decidable q] :
    ((if p then 1#32 else 0#32) ≠ if q then 1#32 else 0#32) ↔ ¬(p ↔ q) := by
  by_cases hp : p <;> simp [hp]

/-- The two comparisons of the four-instruction check disagree exactly on signed overflow (R224). -/
theorem comparisons_ne_iff_overflow (a b : Word) :
    ((if b.toInt < 0 then 1#32 else 0#32) ≠ if (a + b).toInt < a.toInt then 1#32 else 0#32) ↔
      a.toInt + b.toInt < -2147483648 ∨ 2147483648 ≤ a.toInt + b.toInt := by
  have ha : -2147483648 ≤ a.toInt := a.le_toInt
  have ha' : a.toInt < 2147483648 := a.toInt_lt
  rw [one_or_zero_ne_iff, toInt_add_lt_left_iff]
  omega

/-! ### The overflow checks (R224) -/

/-- A branch eight bytes further on keeps the alignment of its target. -/
theorem fourAligned_add_eight {p d : Word} (h : FourAligned (p + 4#32 + d)) : FourAligned (p + 12#32 + d) := by
  simp only [FourAligned, BitVec.toNat_add, BitVec.toNat_ofNat] at h ⊢
  omega

section Overflow

variable {s : State} {off : BitVec 13} (hrun : s.trap = none)
  (haligned : FourAligned (s.pc + 4#32 + off.signExtend 32))

include hrun haligned

theorem endsAt_overflowUnsignedAdd : EndsAt (runAll (overflowUnsignedAdd off) s)
    (if 4294967296 ≤ (readX s 6#5).toNat + (readX s 7#5).toNat then s.pc + 4#32 + off.signExtend 32
      else s.pc + 8#32) := by
  refine (writes_exec_add s 5#5 6#5 7#5).endsAt_cons hrun (by decide) fun t htrap hpc hsum hother => ?_
  have h := (branches_exec_bltu t 5#5 6#5 off).endsAt htrap (hpc ▸ haligned)
  simpa only [hsum, hother 6#5 (by decide), toNat_add_lt_left_iff, hpc, BitVec.add_assoc s.pc 4#32 4#32,
    BitVec.reduceAdd] using h

theorem endsAt_overflowAddImmediate {imm : BitVec 12} (himm : 0 < imm.toInt) :
    EndsAt (runAll (overflowAddImmediate imm off) s)
      (if 2147483648 ≤ (readX s 6#5).toInt + imm.toInt then s.pc + 4#32 + off.signExtend 32 else s.pc + 8#32) := by
  have hvalue : (imm.signExtend 32).toInt = imm.toInt := BitVec.toInt_signExtend_of_le (by decide)
  refine (writes_exec_addi s 5#5 6#5 imm).endsAt_cons hrun (by decide) fun t htrap hpc hsum hother => ?_
  have h := (branches_exec_blt t 5#5 6#5 off).endsAt htrap (hpc ▸ haligned)
  simpa only [hsum, hother 6#5 (by decide), toInt_add_lt_left_iff, hvalue, himm.not_gt, false_and, false_or, hpc,
    BitVec.add_assoc s.pc 4#32 4#32,
    BitVec.reduceAdd] using h

theorem endsAt_overflowSignedAdd : EndsAt (runAll (overflowSignedAdd off) s)
    (if (readX s 6#5).toInt + (readX s 7#5).toInt < -2147483648 ∨
        2147483648 ≤ (readX s 6#5).toInt + (readX s 7#5).toInt then s.pc + 12#32 + off.signExtend 32
      else s.pc + 16#32) := by
  refine (writes_exec_add s 5#5 6#5 7#5).endsAt_cons hrun (by decide) fun t htrap hpc hsum hother => ?_
  refine (writes_exec_slti t 28#5 7#5 0#12).endsAt_cons htrap (by decide) fun u hutrap hupc hneg huother => ?_
  refine (writes_exec_slt u 29#5 5#5 6#5).endsAt_cons hutrap (by decide) fun w hwtrap hwpc hless hwother => ?_
  have hpcw : w.pc = s.pc + 12#32 := by
    simp only [hwpc, hupc, hpc, BitVec.add_assoc, BitVec.reduceAdd]
  have hnegative : readX w 28#5 = if (readX s 7#5).toInt < 0 then 1#32 else 0#32 := by
    rw [hwother 28#5 (by decide), hneg, hother 7#5 (by decide)]
    rfl
  have hbelow : readX w 29#5 =
      if (readX s 6#5 + readX s 7#5).toInt < (readX s 6#5).toInt then 1#32 else 0#32 := by
    rw [hless, huother 5#5 (by decide), huother 6#5 (by decide), hsum, hother 6#5 (by decide)]
  have h := (branches_exec_bne w 28#5 29#5 off).endsAt hwtrap (hpcw ▸ fourAligned_add_eight haligned)
  simpa only [hnegative, hbelow, comparisons_ne_iff_overflow, hpcw, BitVec.add_assoc s.pc 12#32 4#32,
    BitVec.reduceAdd] using h

end Overflow

end Sys2Proof.Machine
end

section
/-! The statements of the integer computational instructions (40_integer_computational.md). -/

namespace Sys2Proof.Machine

/-- Settles O28. -/
theorem upperImmediateResults : Obligations.UpperImmediateResults := fun s rd imm =>
  ⟨decode_encode (.lui rd imm) rfl, decode_encode (.auipc rd imm) rfl, writes_exec_lui s rd imm,
    writes_exec_auipc s rd imm⟩

/-- Settles O29. -/
theorem registerImmediateResults : Obligations.RegisterImmediateResults := fun s rd rs1 imm =>
  ⟨decode_encode (.addi rd rs1 imm) rfl, decode_encode (.slti rd rs1 imm) rfl,
    decode_encode (.sltiu rd rs1 imm) rfl, decode_encode (.andi rd rs1 imm) rfl,
    decode_encode (.ori rd rs1 imm) rfl, decode_encode (.xori rd rs1 imm) rfl,
    writes_exec_addi s rd rs1 imm, writes_exec_slti s rd rs1 imm, writes_exec_sltiu s rd rs1 imm,
    writes_exec_andi s rd rs1 imm, writes_exec_ori s rd rs1 imm, writes_exec_xori s rd rs1 imm⟩

/-- Settles O30. -/
theorem constantShiftResults : Obligations.ConstantShiftResults := fun s rd rs1 shamt =>
  ⟨decode_encode (.slli rd rs1 shamt) rfl, decode_encode (.srli rd rs1 shamt) rfl,
    decode_encode (.srai rd rs1 shamt) rfl, _, _, _, writes_exec_slli s rd rs1 shamt,
    writes_exec_srli s rd rs1 shamt, writes_exec_srai s rd rs1 shamt,
    fun _ => getLsbD_shiftLeft_word _ _, fun _ _ => getLsbD_ushiftRight_word _ _,
    fun _ => getLsbD_sshiftRight_word _ _⟩

/-- Settles O31. -/
theorem registerRegisterResults : Obligations.RegisterRegisterResults := fun s rd rs1 rs2 =>
  ⟨decode_encode (.add rd rs1 rs2) rfl, decode_encode (.sub rd rs1 rs2) rfl, decode_encode (.slt rd rs1 rs2) rfl,
    decode_encode (.sltu rd rs1 rs2) rfl, decode_encode (.and rd rs1 rs2) rfl, decode_encode (.or rd rs1 rs2) rfl,
    decode_encode (.xor rd rs1 rs2) rfl, writes_exec_add s rd rs1 rs2, writes_exec_sub s rd rs1 rs2,
    writes_exec_slt s rd rs1 rs2, writes_exec_sltu s rd rs1 rs2, writes_exec_and s rd rs1 rs2,
    writes_exec_or s rd rs1 rs2, writes_exec_xor s rd rs1 rs2⟩

/-- Settles O32. -/
theorem registerShiftResults : Obligations.RegisterShiftResults := fun s rd rs1 rs2 =>
  ⟨decode_encode (.sll rd rs1 rs2) rfl, decode_encode (.srl rd rs1 rs2) rfl, decode_encode (.sra rd rs1 rs2) rfl,
    _, _, _, writes_exec_sll s rd rs1 rs2, writes_exec_srl s rd rs1 rs2, writes_exec_sra s rd rs1 rs2,
    fun _ => getLsbD_shiftLeft_word _ _, fun _ _ => getLsbD_ushiftRight_word _ _,
    fun _ => getLsbD_sshiftRight_word _ _⟩

/-- Settles O33. -/
theorem arithmeticRightShiftIsFloorDivision : Obligations.ArithmeticRightShiftIsFloorDivision :=
  fun s rd rs1 rs2 shamt =>
    ⟨_, _, writes_exec_srai s rd rs1 shamt, toInt_sshiftRight_eq_div _ _, writes_exec_sra s rd rs1 rs2,
      toInt_sshiftRight_eq_div _ _⟩

/-- Settles O34: each check compares the wrapped sum with an operand, which tells the overflow. -/
theorem overflowChecksBranchExactlyOnOverflow : Obligations.OverflowChecksBranchExactlyOnOverflow :=
  fun _ _ hrun haligned => ⟨endsAt_overflowUnsignedAdd hrun haligned,
    fun _ himm => endsAt_overflowAddImmediate hrun haligned himm, endsAt_overflowSignedAdd hrun haligned⟩

end Sys2Proof.Machine
end

section
/-! SUPPORT. Jumps and branches as a whole, the misaligned target included (41_control_transfer.md R241 to R250), and the
words of JALR's opcode that are no JALR (30_encoding.md R120). -/

namespace Sys2Proof.Machine

/-! ### Jumps -/

/-- A jump to a misaligned target only takes the exception (R243). -/
theorem traps_jumpAndLink {s : State} {target : Word} (rd : Reg) (h : ¬FourAligned target) :
    Traps s (jumpAndLink s rd target) .instructionAddressMisaligned (some target) := by
  have hmisaligned : targetMisaligned target = true :=
    (targetMisaligned_iff target).2 fun hbits => h ((fourAligned_iff target).2 hbits)
  rw [jumpAndLink, if_pos hmisaligned]
  exact traps_takeException s _ _

theorem jumps_jumpAndLink (s : State) (rd : Reg) (target : Word) :
    Jumps s (jumpAndLink s rd target) rd target :=
  ⟨writesAndGoesTo_jumpAndLink rd, traps_jumpAndLink rd⟩

theorem jumps_exec_jal (s : State) (rd : Reg) (off : BitVec 21) :
    Jumps s (exec (.jal rd off) s) rd (s.pc + off.signExtend 32) :=
  jumps_jumpAndLink s rd _

/-- The target is of the old x[rs1], also when rd is rs1 (R242). -/
theorem jumps_exec_jalr (s : State) (rd rs1 : Reg) (imm : BitVec 12) :
    Jumps s (exec (.jalr rd rs1 imm) s) rd ((readX s rs1 + imm.signExtend 32) &&& 0xFFFFFFFE#32) :=
  jumps_jumpAndLink s rd _

/-! ### The words of JALR's opcode -/

theorem decode_of_jalrOpcode {w : Word} (hop : opcodeOf w = 0b1100111#7) : decode w = decodeJalr w := by
  simp only [decode, hop]

theorem decodeJalr_of_funct3_ne {w : Word} (h3 : funct3Of w ≠ 0b000#3) : decodeJalr w = .error .illegal := by
  unfold decodeJalr
  split
  next h0 => exact absurd h0 h3
  next => rfl

theorem traps_of_jalrOpcode_funct3_ne {w : Word} (hop : opcodeOf w = 0b1100111#7) (h3 : funct3Of w ≠ 0b000#3)
    (s : State) : Traps s (runWord w s) .illegalInstruction (some w) := by
  rw [runWord_of_decode_illegal ((decode_of_jalrOpcode hop).trans (decodeJalr_of_funct3_ne h3))]
  exact traps_takeException s _ _

/-! ### Branches -/

section Branch

variable (s : State) (rs1 rs2 : Reg) (off : BitVec 13)

theorem branches_exec_beq :
    Branches s (exec (.beq rs1 rs2 off) s) (readX s rs1 = readX s rs2) off := by
  have h := branches_branchIf s (condEq (readX s rs1) (readX s rs2)) off
  rwa [condEq, beq_iff_eq] at h

theorem branches_exec_bge :
    Branches s (exec (.bge rs1 rs2 off) s) ((readX s rs1).toInt ≥ (readX s rs2).toInt) off := by
  have h := branches_branchIf s (condGe (readX s rs1) (readX s rs2)) off
  rwa [condGe, ltSigned, Bool.not_eq_true', decide_eq_false_iff_not, not_lt] at h

theorem branches_exec_bgeu :
    Branches s (exec (.bgeu rs1 rs2 off) s) ((readX s rs1).toNat ≥ (readX s rs2).toNat) off := by
  have h := branches_branchIf s (condGeu (readX s rs1) (readX s rs2)) off
  rwa [condGeu, ltUnsigned, Bool.not_eq_true', decide_eq_false_iff_not, not_lt] at h

end Branch

/-- An offset with bit 0 clear is one that the B and the J format hold (30_encoding.md R110, R112). -/
theorem offsetEven_of_getLsbD_zero {n : Nat} {off : BitVec n} (h : off.getLsbD 0 = false) :
    offsetEven off = true := by
  rw [offsetEven, h, beq_self_eq_true]

end Sys2Proof.Machine
end

section
/-! The statements of control transfer (41_control_transfer.md). -/

namespace Sys2Proof.Machine

/-- Settles O35. -/
theorem jumpAndLinkResults : Obligations.JumpAndLinkResults := fun s rd off =>
  ⟨fun h => decode_encode (.jal rd off) (offsetEven_of_getLsbD_zero h), jumps_exec_jal s rd off⟩

/-- Settles O36. -/
theorem jumpAndLinkRegisterResults : Obligations.JumpAndLinkRegisterResults := fun s rd rs1 imm =>
  ⟨decode_encode (.jalr rd rs1 imm) rfl, jumps_exec_jalr s rd rs1 imm,
    fun _ hop h3 => traps_of_jalrOpcode_funct3_ne hop h3 s⟩

/-- Settles O37: each word by the round trip of its row, and each branch by its comparison. -/
theorem branchResults : Obligations.BranchResults := fun s rs1 rs2 off =>
  ⟨fun h => decode_encode (.beq rs1 rs2 off) (offsetEven_of_getLsbD_zero h),
    fun h => decode_encode (.bne rs1 rs2 off) (offsetEven_of_getLsbD_zero h),
    fun h => decode_encode (.blt rs1 rs2 off) (offsetEven_of_getLsbD_zero h),
    fun h => decode_encode (.bge rs1 rs2 off) (offsetEven_of_getLsbD_zero h),
    fun h => decode_encode (.bltu rs1 rs2 off) (offsetEven_of_getLsbD_zero h),
    fun h => decode_encode (.bgeu rs1 rs2 off) (offsetEven_of_getLsbD_zero h),
    branches_exec_beq s rs1 rs2 off, branches_exec_bne s rs1 rs2 off, branches_exec_blt s rs1 rs2 off,
    branches_exec_bge s rs1 rs2 off, branches_exec_bltu s rs1 rs2 off, branches_exec_bgeu s rs1 rs2 off⟩

end Sys2Proof.Machine
end

section
/-! SUPPORT. A load or a store as a whole (42_load_store.md R260 to R270): what its checks raise, in their order, and
that it completes where they raise nothing. -/

namespace Sys2Proof.Machine

/-! ### Each load and store is the shared operation at its width (R261 to R268) -/

section Instructions

variable (rd rs1 rs2 : Reg) (imm : BitVec 12) (s : State)

theorem exec_lb : exec (.lb rd rs1 imm) s = loadTo s rd (readX s rs1 + imm.signExtend 32) 1
    ((byteAt s (readX s rs1 + imm.signExtend 32)).signExtend 32) := rfl

theorem exec_lbu : exec (.lbu rd rs1 imm) s = loadTo s rd (readX s rs1 + imm.signExtend 32) 1
    ((byteAt s (readX s rs1 + imm.signExtend 32)).setWidth 32) := rfl

theorem exec_lh : exec (.lh rd rs1 imm) s = loadTo s rd (readX s rs1 + imm.signExtend 32) 2
    ((mem16 s (readX s rs1 + imm.signExtend 32)).signExtend 32) := rfl

theorem exec_lhu : exec (.lhu rd rs1 imm) s = loadTo s rd (readX s rs1 + imm.signExtend 32) 2
    ((mem16 s (readX s rs1 + imm.signExtend 32)).setWidth 32) := rfl

theorem exec_lw : exec (.lw rd rs1 imm) s = loadTo s rd (readX s rs1 + imm.signExtend 32) 4
    (mem32 s (readX s rs1 + imm.signExtend 32)) := rfl

theorem exec_sb :
    exec (.sb rs1 rs2 imm) s = storeFrom s (readX s rs1 + imm.signExtend 32) 1 (readX s rs2) := rfl

theorem exec_sh :
    exec (.sh rs1 rs2 imm) s = storeFrom s (readX s rs1 + imm.signExtend 32) 2 (readX s rs2) := rfl

end Instructions

/-! ### What the checks of an access raise (20_memory.md R68, R69, 60_exceptions.md R505) -/

section Checks

variable {s : State} {a : Word} {n : Nat}

theorem misalignedTraps_of_not_alignmentServed (h : ¬AlignmentServed s a n) : misalignedTraps s.cfg a n = true := by
  rwa [← misalignedTraps_eq_false_iff, Bool.not_eq_false] at h

theorem loadCheck_of_misaligned (h : ¬AlignmentServed s a n) :
    loadCheck s a n = some ⟨.loadAddressMisaligned, a⟩ := by
  rw [loadCheck, if_pos (misalignedTraps_of_not_alignmentServed h)]

theorem storeCheck_of_misaligned (h : ¬AlignmentServed s a n) :
    storeCheck s a n = some ⟨.storeAddressMisaligned, a⟩ := by
  rw [storeCheck, if_pos (misalignedTraps_of_not_alignmentServed h)]

theorem loadCheck_of_illegal (haligned : AlignmentServed s a n) (hillegal : ¬LegalFor s .load a n) :
    loadCheck s a n = some ⟨.loadAccessFault, a⟩ := by
  rw [loadCheck, (misalignedTraps_eq_false_iff s a n).2 haligned, if_neg Bool.false_ne_true,
    if_neg (mt (legalRange_iff ..).1 hillegal)]

theorem storeCheck_of_illegal (haligned : AlignmentServed s a n) (hillegal : ¬LegalFor s .store a n) :
    storeCheck s a n = some ⟨.storeAccessFault, a⟩ := by
  rw [storeCheck, (misalignedTraps_eq_false_iff s a n).2 haligned, if_neg Bool.false_ne_true,
    if_neg (mt (legalRange_iff ..).1 hillegal)]

theorem storeCheck_eq_none (haligned : AlignmentServed s a n) (hlegal : LegalFor s .store a n) :
    storeCheck s a n = none :=
  (storeCheck_none_iff s a n).2 ⟨(misalignedTraps_eq_false_iff s a n).2 haligned, (legalRange_iff ..).2 hlegal⟩

end Checks

/-! ### A load or a store whose check raises (R270) -/

theorem traps_loadTo {s : State} {ea : Word} {n : Nat} {r : Raise} (rd : Reg) (v : Word)
    (h : loadCheck s ea n = some r) : Traps s (loadTo s rd ea n v) r.exc (some r.value) := by
  rw [loadTo, h]
  exact traps_takeException s _ _

theorem traps_storeFrom {s : State} {ea : Word} {n : Nat} {r : Raise} (v : Word)
    (h : storeCheck s ea n = some r) : Traps s (storeFrom s ea n v) r.exc (some r.value) := by
  rw [storeFrom, h]
  exact traps_takeException s _ _

/-! ### Stores that complete (R266 to R268) -/

/-- Storing the low `n` bytes of `v` and completing changes nothing else (20_memory.md R69). -/
theorem storesBytes_retire_storeBytes (s : State) (ea v : Word) {n : Nat} (hn : n ≤ 4) :
    StoresBytes s (.next (retire (storeBytes s ea (storedBytes v n)))) ea n v := by
  have hlength : (storedBytes v n).length = n := length_storedBytes v hn
  refine ⟨_, rfl, readX_storeBytes s ea _, retires_retire_storeBytes s ea _, fun i hi => ?_, fun a ha => ?_,
    fun a => ?_⟩
  · rw [byteAt_retire, byteAt_storeBytes_inside s ea _ i (by omega) (by omega), getElem_storedBytes]
  · rw [byteAt_retire, byteAt_storeBytes_outside s ea _ a (by rwa [hlength])]
  · rw [retire_stale, mem_stale_storeBytes, hlength]

theorem storesBytes_storeFrom {s : State} {ea : Word} {n : Nat} (v : Word) (hn : n ≤ 4)
    (haligned : AlignmentServed s ea n) (hlegal : LegalFor s .store ea n) :
    StoresBytes s (storeFrom s ea n v) ea n v := by
  rw [storeFrom, storeCheck_eq_none haligned hlegal]
  exact storesBytes_retire_storeBytes s ea v hn

/-! ### The order of the checks (R270) -/

theorem Writes.trap_kept {s : State} {r : StepResult} {rd : Reg} {v : Word} (h : Writes s r rd v) :
    ∃ t, r = .next t ∧ t.trap = s.trap := by
  obtain ⟨t, hr, -, -, -, -, -, -, htrap, -⟩ := h
  exact ⟨t, hr, htrap⟩

theorem StoresBytes.trap_kept {s : State} {r : StepResult} {ea v : Word} {n : Nat} (h : StoresBytes s r ea n v) :
    ∃ t, r = .next t ∧ t.trap = s.trap := by
  obtain ⟨t, hr, -, ⟨-, -, -, -, htrap, -⟩, -⟩ := h
  exact ⟨t, hr, htrap⟩

/-- `r` is the result of an access of kind `k` to the `n` bytes from `ea` on: turned away for its alignment first, then
for an illegal byte, and raising nothing otherwise. -/
structure AccessChecked (s : State) (r : StepResult) (k : AccessKind) (misaligned fault : Exc) (ea : Word) (n : Nat) :
    Prop where
  misaligned : ¬AlignmentServed s ea n → Traps s r misaligned (some ea)
  illegal : AlignmentServed s ea n → ¬LegalFor s k ea n → Traps s r fault (some ea)
  served : AlignmentServed s ea n → LegalFor s k ea n → ∃ t, r = .next t ∧ t.trap = s.trap

theorem accessChecked_of_eq_loadTo {s : State} {r : StepResult} {rd : Reg} {ea : Word} {n : Nat} {v : Word}
    (h : r = loadTo s rd ea n v) : AccessChecked s r .load .loadAddressMisaligned .loadAccessFault ea n where
  misaligned hmisaligned := h ▸ traps_loadTo rd v (loadCheck_of_misaligned hmisaligned)
  illegal haligned hillegal := h ▸ traps_loadTo rd v (loadCheck_of_illegal haligned hillegal)
  served haligned hlegal := h ▸ (writes_loadTo rd v haligned hlegal).trap_kept

theorem accessChecked_of_eq_storeFrom {s : State} {r : StepResult} {ea : Word} {n : Nat} {v : Word} (hn : n ≤ 4)
    (h : r = storeFrom s ea n v) : AccessChecked s r .store .storeAddressMisaligned .storeAccessFault ea n where
  misaligned hmisaligned := h ▸ traps_storeFrom v (storeCheck_of_misaligned hmisaligned)
  illegal haligned hillegal := h ▸ traps_storeFrom v (storeCheck_of_illegal haligned hillegal)
  served haligned hlegal := h ▸ (storesBytes_storeFrom v hn haligned hlegal).trap_kept

/-! ### Loads to x0 (R269) -/

/-- The five loads differ in their width and in the value they read; neither depends on rd. -/
theorem exec_load_eq_loadTo {load : Reg → Instr} (s : State) {rs1 : Reg} {imm : BitVec 12}
    (h : load ∈ ([fun rd => .lb rd rs1 imm, fun rd => .lh rd rs1 imm, fun rd => .lw rd rs1 imm,
      fun rd => .lbu rd rs1 imm, fun rd => .lhu rd rs1 imm] : List (Reg → Instr))) :
    ∃ n v, ∀ rd, exec (load rd) s = loadTo s rd (readX s rs1 + imm.signExtend 32) n v := by
  simp only [List.mem_cons, List.not_mem_nil, or_false] at h
  obtain rfl | rfl | rfl | rfl | rfl := h
  · exact ⟨_, _, fun rd => exec_lb rd rs1 imm s⟩
  · exact ⟨_, _, fun rd => exec_lh rd rs1 imm s⟩
  · exact ⟨_, _, fun rd => exec_lw rd rs1 imm s⟩
  · exact ⟨_, _, fun rd => exec_lbu rd rs1 imm s⟩
  · exact ⟨_, _, fun rd => exec_lhu rd rs1 imm s⟩

/-- The trap a load leaves is that of its check, whatever rd is; where there is none, a load to x0 only advances. -/
theorem loadTo_zero_traps_alike_or_advances (s : State) (ea : Word) (n : Nat) (v : Word) :
    ∃ t, loadTo s 0#5 ea n v = .next t ∧
      (t.trap = none → OnlyGoesTo s (loadTo s 0#5 ea n v) (s.pc + 4#32)) ∧
      ∀ rd : Reg, ∃ u, loadTo s rd ea n v = .next u ∧ u.trap = t.trap := by
  cases hcheck : loadCheck s ea n with
  | some r =>
    have hload (rd : Reg) : loadTo s rd ea n v = .next (takeException s r.exc (some r.value)) := by
      simp only [loadTo, hcheck, raise_eq]
    exact ⟨_, hload 0#5, nofun, fun rd => ⟨_, hload rd, rfl⟩⟩
  | none =>
    have hload (rd : Reg) : loadTo s rd ea n v = .next (retire (writeX s rd v)) := by
      simp only [loadTo, hcheck, writeAndRetire_eq]
    refine ⟨_, hload 0#5, fun _ => ?_, fun rd => ⟨_, hload rd, ?_⟩⟩
    · rw [hload]
      exact (writes_writeAndRetire s 0#5 v).onlyGoesTo
    · rw [retire_trap, retire_trap, writeX_trap, writeX_trap]

end Sys2Proof.Machine
end

section
/-! The statements of loads and stores (42_load_store.md). -/

namespace Sys2Proof.Machine

/-- Settles O38: a load that is served and legal completes with what it reads, the bytes joined as in memory. -/
theorem loadResults : Obligations.LoadResults := fun _ rd _ _ =>
  ⟨fun _ => writes_exec_lb rd, fun _ => writes_exec_lbu rd, writes_exec_lh rd, writes_exec_lhu rd, writes_exec_lw rd⟩

/-- Settles O39: the three stores are one store of 1, 2 or 4 bytes. -/
theorem storeResults : Obligations.StoreResults := by
  intro s rs1 rs2 imm
  rw [exec_sb, exec_sh, exec_sw]
  exact ⟨storesBytes_storeFrom _ (by decide), storesBytes_storeFrom _ (by decide), storesBytes_storeFrom _ le_rfl⟩

/-- Settles O40: the checks of each load and of each store are those of its shared operation at its width. -/
theorem loadAndStoreExceptions : Obligations.LoadAndStoreExceptions := by
  intro s rd rs1 rs2 imm
  have lb := accessChecked_of_eq_loadTo (exec_lb rd rs1 imm s)
  have lbu := accessChecked_of_eq_loadTo (exec_lbu rd rs1 imm s)
  have lh := accessChecked_of_eq_loadTo (exec_lh rd rs1 imm s)
  have lhu := accessChecked_of_eq_loadTo (exec_lhu rd rs1 imm s)
  have lw := accessChecked_of_eq_loadTo (exec_lw rd rs1 imm s)
  have sb := accessChecked_of_eq_storeFrom (by decide) (exec_sb rs1 rs2 imm s)
  have sh := accessChecked_of_eq_storeFrom (by decide) (exec_sh rs1 rs2 imm s)
  have sw := accessChecked_of_eq_storeFrom (by decide) (exec_sw rs1 rs2 imm s)
  exact ⟨lb.illegal, lb.served, lbu.illegal, lbu.served, lh.misaligned, lh.illegal, lh.served,
    lhu.misaligned, lhu.illegal, lhu.served, lw.misaligned, lw.illegal, lw.served, sb.illegal, sb.served,
    sh.misaligned, sh.illegal, sh.served, sw.misaligned, sw.illegal, sw.served⟩

/-- Settles O41: the checks of a load do not look at rd, and writing x0 is no change. -/
theorem loadsToRegisterZeroStillAccess : Obligations.LoadsToRegisterZeroStillAccess := by
  intro s rs1 imm load hload _
  obtain ⟨n, v, hexec⟩ := exec_load_eq_loadTo s hload
  simp only [hexec]
  exact loadTo_zero_traps_alike_or_advances s _ n v

end Sys2Proof.Machine
end

section
/-! The statements of the fences (43_fence.md). -/

namespace Sys2Proof.Machine

/-- Retiring with an emptied `stale` leaves every counter as retiring does: none of them is read off `stale`. -/
theorem retires_retire_emptyStale (s : State) : Retires s (retire { s with stale := [] }) (s.pc + 4#32) :=
  retires_retireTo _ rfl rfl rfl rfl rfl rfl

/-- Settles O43: FENCE is the bare retirement, whatever pred and succ are. -/
theorem fenceOnlyRetires : Obligations.FenceOnlyRetires := by
  intro s pred succ
  rw [exec_fence]
  exact onlyGoesTo_retireTo s _

/-- Settles O44: FENCE.I retires from the state with `stale` emptied, and registers and bytes do not look at `stale`. -/
theorem fenceIEmptiesStale : Obligations.FenceIEmptiesStale := by
  intro s
  refine ⟨_, exec_fenceI s, ?stale, ?registers, ?bytes, retires_retire_emptyStale s⟩
  case stale => exact retireTo_stale ..
  case registers => exact readX_retire _
  case bytes => exact byteAt_retire _

end Sys2Proof.Machine
end

section
/-! SUPPORT. The CSR instructions from the side of their result, and the halves of a counter (44_csr_counters.md R290 to
R296, R301). -/

namespace Sys2Proof.Machine

/-! ### The CSR check (R290) -/

theorem csrAt_eq_none_of_not_mem {a : BitVec 12}
    (h : a ∉ ([0xC00#12, 0xC01#12, 0xC02#12, 0xC80#12, 0xC81#12, 0xC82#12] : List (BitVec 12))) :
    csrAt a = none := by
  simp only [List.mem_cons, List.not_mem_nil, or_false, not_or] at h
  simp [csrAt, h]

theorem csrCheck_of_csrAt_eq_none {a : BitVec 12} (h : csrAt a = none) (doesWrite : Bool) :
    csrCheck a doesWrite = none := by
  rw [csrCheck, h]

/-- The check looks at the rs1 field or uimm, not at a register's value: any field but 0 is a write (R292, R293, R295,
R296). -/
theorem csrCheck_of_field_ne_zero (a : BitVec 12) {field : BitVec 5} (h : field ≠ 0#5) :
    csrCheck a (field != 0#5) = none := by
  rw [bne_iff_ne.2 h, csrCheck_writes]

/-! ### The two outcomes of a CSR form -/

/-- A CSR form whose check fails takes the exception, whatever it would have completed with. -/
theorem traps_csr {i : Instr} {s : State} {csr : BitVec 12} {doesWrite : Bool} {f : Csr → StepResult}
    (h : csrCheck csr doesWrite = none) :
    Traps s (match csrCheck csr doesWrite with | none => illegal i s | some c => f c) .illegalInstruction
      (some (encode i)) := by
  rw [h]
  exact traps_takeException s _ _

/-- A CSR form that writes under a condition, with field 0: it reads an implemented CSR into rd (R292, R293, R295,
R296). -/
theorem writes_csr_read {i : Instr} {s : State} {csr : BitVec 12} {c : Csr} (rd : Reg) {f : Csr → Word}
    (h : csrAt csr = some c) :
    Writes s (match csrCheck csr (0#5 != 0#5) with
      | none => illegal i s
      | some k => csrComplete s k rd true (if 0#5 = 0#5 then none else some (f k))) rd (csrRead s c) := by
  rw [csrCheck_eq_some.2 ⟨h, bne_self_eq_false _⟩]
  exact writes_writeAndRetire s rd _

theorem writes_exec_csrrs_x0 {csr : BitVec 12} {c : Csr} (s : State) (rd : Reg) (h : csrAt csr = some c) :
    Writes s (exec (.csrrs rd csr 0#5) s) rd (csrRead s c) :=
  writes_csr_read rd h

/-! ### The halves of a counter (R33, R301) -/

theorem toNat_high_half (c : Counter) : (c.extractLsb' 32 32).toNat = c.toNat / 4294967296 := by
  have hc := c.isLt
  rw [BitVec.extractLsb'_toNat, Nat.shiftRight_eq_div_pow]
  omega

theorem append_halves (c : Counter) : c.extractLsb' 32 32 ++ c.extractLsb' 0 32 = c := by
  have hjoin : c.extractLsb' 32 32 ++ c.extractLsb' 0 32 = c.extractLsb' 0 64 :=
    BitVec.extractLsb'_append_extractLsb'_eq_extractLsb' rfl
  rw [hjoin, BitVec.extractLsb'_eq_self]

/-- The high half never decreases with its counter, so one that is the same at both ends is the same in between. -/
theorem append_halves_of_high_half_eq {x y z : Counter} (hxy : x.toNat ≤ y.toNat) (hyz : y.toNat ≤ z.toNat)
    (h : x.extractLsb' 32 32 = z.extractLsb' 32 32) : z.extractLsb' 32 32 ++ y.extractLsb' 0 32 = y := by
  have hhigh : z.extractLsb' 32 32 = y.extractLsb' 32 32 := by
    apply BitVec.eq_of_toNat_eq
    have hends := congrArg BitVec.toNat h
    simp only [toNat_high_half] at hends ⊢
    omega
  rw [hhigh, append_halves]

end Sys2Proof.Machine
end

section
/-! The statements of the CSR instructions and the counters (44_csr_counters.md). -/

namespace Sys2Proof.Machine

/-- Settles O46: a form traps where its check fails, that is at a CSR that is none of the six or where it writes, and
otherwise reads the half of the counter that the CSR is a window on. -/
theorem csrOutcomeTable : Obligations.CsrOutcomeTable := by
  intro s rd csr r u
  refine ⟨fun hmem => ?absent, ?always, fun hr => ?register, fun hu => ?immediate, fun c hrow => ?reads⟩
  case absent =>
    have hnone := csrCheck_of_csrAt_eq_none (csrAt_eq_none_of_not_mem hmem)
    exact ⟨traps_csr (hnone _), traps_csr (hnone _), traps_csr (hnone _), traps_csr (hnone _), traps_csr (hnone _),
      traps_csr (hnone _)⟩
  case always => exact ⟨traps_csr (csrCheck_writes csr), traps_csr (csrCheck_writes csr)⟩
  case register =>
    have hnone := csrCheck_of_field_ne_zero csr hr
    exact ⟨traps_csr hnone, traps_csr hnone⟩
  case immediate =>
    have hnone := csrCheck_of_field_ne_zero csr hu
    exact ⟨traps_csr hnone, traps_csr hnone⟩
  case reads =>
    have hwindow : ∃ k, csrAt csr = some k ∧ csrRead s k = c := by
      obtain ⟨rfl, rfl⟩ | ⟨rfl, rfl⟩ | ⟨rfl, rfl⟩ | ⟨rfl, rfl⟩ | ⟨rfl, rfl⟩ | ⟨rfl, rfl⟩ := hrow
      · exact ⟨.cycle, rfl, rfl⟩
      · exact ⟨.time, rfl, rfl⟩
      · exact ⟨.instret, rfl, rfl⟩
      · exact ⟨.cycleh, rfl, rfl⟩
      · exact ⟨.timeh, rfl, rfl⟩
      · exact ⟨.instreth, rfl, rfl⟩
    obtain ⟨k, hk, rfl⟩ := hwindow
    exact ⟨writes_csr_read rd hk, writes_csr_read rd hk, writes_csr_read rd hk, writes_csr_read rd hk⟩

/-- Settles O49: for each of the three counters, the high half between two equal ones is the same. -/
theorem highLowHighReadIsConsistent : Obligations.HighLowHighReadIsConsistent := fun _ _ _ =>
  ⟨append_halves_of_high_half_eq, append_halves_of_high_half_eq, append_halves_of_high_half_eq⟩

/-- Settles O47: each pseudo-instruction is CSRRS from one of the six CSRs with rs1 = x0. -/
theorem counterPseudoInstructionsRead : Obligations.CounterPseudoInstructionsRead := by
  intro s rd
  have cycle : csrAt 0xC00#12 = some .cycle := rfl
  have time : csrAt 0xC01#12 = some .time := rfl
  have instret : csrAt 0xC02#12 = some .instret := rfl
  have cycleh : csrAt 0xC80#12 = some .cycleh := rfl
  have timeh : csrAt 0xC81#12 = some .timeh := rfl
  have instreth : csrAt 0xC82#12 = some .instreth := rfl
  exact ⟨⟨_, rfl, writes_exec_csrrs_x0 s rd cycle⟩, ⟨_, rfl, writes_exec_csrrs_x0 s rd cycleh⟩,
    ⟨_, rfl, writes_exec_csrrs_x0 s rd time⟩, ⟨_, rfl, writes_exec_csrrs_x0 s rd timeh⟩,
    ⟨_, rfl, writes_exec_csrrs_x0 s rd instret⟩, ⟨_, rfl, writes_exec_csrrs_x0 s rd instreth⟩⟩

end Sys2Proof.Machine
end

section
/-! The statement of the environment instructions (45_environment.md). -/

namespace Sys2Proof.Machine

/-- ECALL always takes its exception, whatever the registers hold (R320). -/
theorem exec_ecall (s : State) : exec .ecall s = .next (takeException s .environmentCall none) := rfl

/-- EBREAK always takes its exception, whatever the registers hold (R321). -/
theorem exec_ebreak (s : State) : exec .ebreak s = .next (takeException s .breakpoint none) := rfl

/-- Settles O50: each of the two is a taken exception and nothing else, so it leaves what every taken exception leaves. -/
theorem environmentCallAndBreakpointTrap : Obligations.EnvironmentCallAndBreakpointTrap := by
  intro s
  rw [exec_ecall, exec_ebreak]
  exact ⟨traps_takeException s .environmentCall none, traps_takeException s .breakpoint none⟩

end Sys2Proof.Machine
end

section
/-! SUPPORT. Multiplication (46_m_extension.md R331 to R334, R340): the two halves of the exact product, whichever of
the operands are signed. -/

namespace Sys2Proof.Machine

/-! ### The halves of an integer's two's complement word -/

theorem toInt_high_half (c : BitVec 64) : (c.extractLsb' 32 32).toInt = c.toInt / 4294967296 := by
  have hhalves : c.toInt = 4294967296 * (c.extractLsb' 32 32).toInt + (c.extractLsb' 0 32).toNat := by
    conv_lhs => rw [← append_halves c, BitVec.toInt_append]
    rfl
  have hlow : (c.extractLsb' 0 32).toNat < 4294967296 := BitVec.isLt _
  omega

/-- Reducing to 64 bits first does not change the low half. -/
theorem low_half_ofInt (p : Int) : (BitVec.ofInt 64 p).extractLsb' 0 32 = BitVec.ofInt 32 p := by
  apply BitVec.eq_of_toNat_eq
  rw [BitVec.extractLsb'_toNat, Nat.shiftRight_zero, BitVec.toNat_ofInt, BitVec.toNat_ofInt]
  omega

theorem toInt_highHalf {p : Int} (hlow : -9223372036854775808 ≤ p) (hhigh : p < 9223372036854775808) :
    (highHalf p).toInt = p / 4294967296 := by
  rw [highHalf, toInt_high_half, BitVec.toInt_ofInt_eq_self (by decide) hlow hhigh]

/-! ### The low half is that of all three products (R331) -/

section Products

variable (a b : Word)

theorem mulLow_eq_mul : mulLow a b = a * b := by
  rw [mulLow, ← BitVec.setWidth_eq_extractLsb' (by decide), BitVec.setWidth_mul _ _ (by decide),
    BitVec.setWidth_setWidth_of_le _ (by decide), BitVec.setWidth_setWidth_of_le _ (by decide), BitVec.setWidth_eq,
    BitVec.setWidth_eq]

theorem ofInt_toInt_mul_toInt : BitVec.ofInt 32 (a.toInt * b.toInt) = mulLow a b := by
  rw [mulLow_eq_mul, BitVec.ofInt_mul, BitVec.ofInt_toInt, BitVec.ofInt_toInt]

theorem ofInt_toInt_mul_toNat : BitVec.ofInt 32 (a.toInt * (b.toNat : Int)) = mulLow a b := by
  rw [mulLow_eq_mul, BitVec.ofInt_mul, BitVec.ofInt_toInt, BitVec.ofInt_natCast, BitVec.ofNat_toNat,
    BitVec.setWidth_eq]

theorem ofInt_toNat_mul_toNat : BitVec.ofInt 32 ((a.toNat : Int) * (b.toNat : Int)) = mulLow a b := by
  rw [mulLow_eq_mul, BitVec.ofInt_mul, BitVec.ofInt_natCast, BitVec.ofInt_natCast, BitVec.ofNat_toNat,
    BitVec.ofNat_toNat, BitVec.setWidth_eq, BitVec.setWidth_eq]

theorem toNat_mulLow : (mulLow a b).toNat = a.toNat * b.toNat % 4294967296 := by
  rw [mulLow_eq_mul]
  exact BitVec.toNat_mul a b

theorem toNat_mulLow_signed : ((mulLow a b).toNat : Int) = a.toInt * b.toInt % 4294967296 := by
  rw [← ofInt_toInt_mul_toInt, BitVec.toNat_ofInt]
  exact Int.toNat_of_nonneg (Int.emod_nonneg _ (by decide))

/-! ### The exact products fit in 64 bits -/

theorem toInt_mul_toInt_bounds :
    -9223372036854775808 ≤ a.toInt * b.toInt ∧ a.toInt * b.toInt < 9223372036854775808 := by
  have hlow : -4611686018427387904 ≤ a.toInt * b.toInt := BitVec.le_toInt_mul_toInt
  have hhigh : a.toInt * b.toInt ≤ 4611686018427387904 := BitVec.toInt_mul_toInt_le
  omega

theorem toInt_mul_toNat_bounds :
    -9223372036854775808 ≤ a.toInt * (b.toNat : Int) ∧ a.toInt * (b.toNat : Int) < 9223372036854775808 := by
  have ha : -2147483648 ≤ a.toInt := a.le_toInt
  have ha' : a.toInt < 2147483648 := a.toInt_lt
  have hb : (b.toNat : Int) < 4294967296 := Int.ofNat_lt.2 b.isLt
  have hb' : 0 ≤ (b.toNat : Int) := Int.natCast_nonneg _
  constructor
  · nlinarith
  · nlinarith

theorem toNat_mul_toNat_lt : a.toNat * b.toNat < 18446744073709551616 :=
  Nat.mul_lt_mul'' a.isLt b.isLt

/-! ### The high half of each product (R332 to R334) -/

theorem toInt_mulHighSS : (mulHighSS a b).toInt = a.toInt * b.toInt / 4294967296 :=
  have ⟨hlow, hhigh⟩ := toInt_mul_toInt_bounds a b
  toInt_highHalf hlow hhigh

theorem toInt_mulHighSU : (mulHighSU a b).toInt = a.toInt * (b.toNat : Int) / 4294967296 :=
  have ⟨hlow, hhigh⟩ := toInt_mul_toNat_bounds a b
  toInt_highHalf hlow hhigh

/-- The unsigned product, as a 64-bit word, is not reduced. -/
theorem toNat_ofInt_toNat_mul_toNat :
    (BitVec.ofInt 64 ((a.toNat : Int) * (b.toNat : Int))).toNat = a.toNat * b.toNat := by
  rw [← Nat.cast_mul, BitVec.ofInt_natCast, BitVec.toNat_ofNat, Nat.mod_eq_of_lt (toNat_mul_toNat_lt a b)]

theorem toNat_mulHighUU : (mulHighUU a b).toNat = a.toNat * b.toNat / 4294967296 := by
  rw [mulHighUU, highHalf, toNat_high_half, toNat_ofInt_toNat_mul_toNat]

/-- A high half over the low half of MUL is the product, as long as it is the high half of a product that agrees with
the operands' modulo 2^32 (R340). -/
theorem highHalf_append_mulLow {p : Int} (h : BitVec.ofInt 32 p = mulLow a b) :
    highHalf p ++ mulLow a b = BitVec.ofInt 64 p := by
  rw [← h, ← low_half_ofInt, highHalf, append_halves]

end Products

/-! ### What each instruction writes -/

section Register

variable (s : State) (rd rs1 rs2 : Reg)

theorem writes_exec_mul : Writes s (exec (.mul rd rs1 rs2) s) rd (mulLow (readX s rs1) (readX s rs2)) :=
  writes_writeAndRetire s rd _

theorem writes_exec_mulh : Writes s (exec (.mulh rd rs1 rs2) s) rd (mulHighSS (readX s rs1) (readX s rs2)) :=
  writes_writeAndRetire s rd _

theorem writes_exec_mulhsu : Writes s (exec (.mulhsu rd rs1 rs2) s) rd (mulHighSU (readX s rs1) (readX s rs2)) :=
  writes_writeAndRetire s rd _

theorem writes_exec_mulhu : Writes s (exec (.mulhu rd rs1 rs2) s) rd (mulHighUU (readX s rs1) (readX s rs2)) :=
  writes_writeAndRetire s rd _

end Register

end Sys2Proof.Machine
end

section
/-! SUPPORT. Division and remainder (46_m_extension.md R335 to R339): Table 6.1 row by row, and that one integer
division lies behind its last two rows. -/

namespace Sys2Proof.Machine

section Division

variable (a : Word) {b : Word}

theorem toNat_ne_zero_of_ne (hb : b ≠ 0#32) : b.toNat ≠ 0 := BitVec.toNat_ne.1 hb

theorem toInt_ne_zero_of_ne (hb : b ≠ 0#32) : b.toInt ≠ 0 := BitVec.toInt_ne.2 hb

/-! ### Unsigned (R336, R338) -/

theorem divUnsigned_zero : divUnsigned a 0#32 = 0xFFFFFFFF#32 := rfl

theorem remUnsigned_zero : remUnsigned a 0#32 = a := rfl

theorem divUnsigned_eq_udiv (hb : b ≠ 0#32) : divUnsigned a b = a / b := by
  rw [divUnsigned, if_neg (toNat_ne_zero_of_ne hb), ← BitVec.toNat_udiv, BitVec.ofNat_toNat, BitVec.setWidth_eq]

theorem remUnsigned_eq_umod : remUnsigned a b = a % b := by
  by_cases hb : b = 0#32
  · rw [hb, remUnsigned_zero, BitVec.umod_zero]
  · rw [remUnsigned, if_neg (toNat_ne_zero_of_ne hb), ← BitVec.toNat_umod, BitVec.ofNat_toNat, BitVec.setWidth_eq]

theorem toNat_division_unsigned (hb : b ≠ 0#32) :
    a.toNat = b.toNat * (divUnsigned a b).toNat + (remUnsigned a b).toNat := by
  rw [divUnsigned_eq_udiv a hb, remUnsigned_eq_umod, BitVec.toNat_udiv, BitVec.toNat_umod, Nat.div_add_mod]

theorem toNat_remUnsigned_lt (hb : b ≠ 0#32) : (remUnsigned a b).toNat < b.toNat := by
  rw [remUnsigned_eq_umod, BitVec.toNat_umod]
  exact Nat.mod_lt _ (Nat.pos_of_ne_zero (toNat_ne_zero_of_ne hb))

variable (b) in
/-- Dividend = divisor * quotient + remainder modulo 2^32, also where the divisor is zero (R339). -/
theorem division_unsigned_mod : a = b * divUnsigned a b + remUnsigned a b := by
  by_cases hb : b = 0#32
  · rw [hb, remUnsigned_zero, BitVec.zero_mul, BitVec.zero_add]
  · apply BitVec.eq_of_toNat_eq
    rw [BitVec.toNat_add, BitVec.toNat_mul, Nat.mod_add_mod, ← toNat_division_unsigned a hb, BitVec.toNat_mod_cancel]

/-! ### Signed (R335, R337) -/

theorem divSigned_zero : divSigned a 0#32 = 0xFFFFFFFF#32 := rfl

theorem remSigned_zero : remSigned a 0#32 = a := rfl

theorem divSigned_overflow : divSigned 0x80000000#32 0xFFFFFFFF#32 = 0x80000000#32 := by decide

theorem remSigned_overflow : remSigned 0x80000000#32 0xFFFFFFFF#32 = 0#32 := by decide

/-- The overflow row is the quotient 2^31 reduced to a word. -/
theorem divSigned_eq_ofInt_tdiv (hb : b ≠ 0#32) : divSigned a b = BitVec.ofInt 32 (a.toInt.tdiv b.toInt) := by
  rw [divSigned, if_neg (toInt_ne_zero_of_ne hb)]
  split
  next hoverflow =>
    obtain ⟨ha, hb'⟩ := hoverflow
    rw [ha, hb']
    decide
  next => rfl

/-- The three rows of the remainder are the library's remainder with the sign of the dividend. -/
theorem remSigned_eq_srem : remSigned a b = a.srem b := by
  have hrem : a.srem b = BitVec.ofInt 32 (a.toInt.tmod b.toInt) := by
    rw [← BitVec.toInt_srem, BitVec.ofInt_toInt]
  rw [remSigned, hrem]
  split
  next hzero => rw [hzero, Int.tmod_zero, BitVec.ofInt_toInt]
  next =>
    split
    next hoverflow =>
      obtain ⟨ha, hb⟩ := hoverflow
      rw [ha, hb]
      decide
    next => rw [Int.tmod_def]

theorem toInt_remSigned : (remSigned a b).toInt = a.toInt.tmod b.toInt := by
  rw [remSigned_eq_srem, BitVec.toInt_srem]

/-- Away from the zero divisor and the overflow the quotient is exact, rounded toward zero. -/
theorem toInt_divSigned (hb : b ≠ 0#32) (hfits : ¬(a = 0x80000000#32 ∧ b = 0xFFFFFFFF#32)) :
    (divSigned a b).toInt = a.toInt.tdiv b.toInt := by
  rw [divSigned_eq_ofInt_tdiv a hb, BitVec.toInt_ofInt, ← BitVec.toInt_sdiv]
  exact BitVec.toInt_sdiv_of_ne_or_ne a b (not_and_or.1 hfits)

theorem toInt_division_signed (hb : b ≠ 0#32) (hfits : ¬(a = 0x80000000#32 ∧ b = 0xFFFFFFFF#32)) :
    a.toInt = b.toInt * (divSigned a b).toInt + (remSigned a b).toInt := by
  rw [toInt_divSigned a hb hfits, toInt_remSigned, Int.mul_tdiv_add_tmod]

theorem natAbs_toInt_remSigned_lt (hb : b ≠ 0#32) : (remSigned a b).toInt.natAbs < b.toInt.natAbs := by
  rw [toInt_remSigned, Int.natAbs_tmod]
  exact Nat.mod_lt _ (Int.natAbs_pos.2 (toInt_ne_zero_of_ne hb))

theorem toInt_remSigned_nonneg (ha : 0 ≤ a.toInt) : 0 ≤ (remSigned a b).toInt := by
  rw [toInt_remSigned]
  exact Int.tmod_nonneg _ ha

theorem toInt_remSigned_nonpos (ha : a.toInt ≤ 0) : (remSigned a b).toInt ≤ 0 := by
  rw [toInt_remSigned, ← neg_nonneg, ← Int.neg_tmod]
  exact Int.tmod_nonneg _ (neg_nonneg.2 ha)

variable (b) in
/-- Dividend = divisor * quotient + remainder modulo 2^32, in every row of Table 6.1 (R339). -/
theorem division_signed_mod : a = b * divSigned a b + remSigned a b := by
  by_cases hb : b = 0#32
  · rw [hb, remSigned_zero, BitVec.zero_mul, BitVec.zero_add]
  · calc a = BitVec.ofInt 32 (b.toInt * a.toInt.tdiv b.toInt + a.toInt.tmod b.toInt) := by
          rw [Int.mul_tdiv_add_tmod, BitVec.ofInt_toInt]
      _ = b * BitVec.ofInt 32 (a.toInt.tdiv b.toInt) + BitVec.ofInt 32 (remSigned a b).toInt := by
          rw [BitVec.ofInt_add, BitVec.ofInt_mul, BitVec.ofInt_toInt, toInt_remSigned]
      _ = b * divSigned a b + remSigned a b := by
          rw [divSigned_eq_ofInt_tdiv a hb, BitVec.ofInt_toInt]

end Division

/-! ### What each instruction writes -/

section Register

variable (s : State) (rd rs1 rs2 : Reg)

theorem writes_exec_div : Writes s (exec (.div rd rs1 rs2) s) rd (divSigned (readX s rs1) (readX s rs2)) :=
  writes_writeAndRetire s rd _

theorem writes_exec_divu : Writes s (exec (.divu rd rs1 rs2) s) rd (divUnsigned (readX s rs1) (readX s rs2)) :=
  writes_writeAndRetire s rd _

theorem writes_exec_rem : Writes s (exec (.rem rd rs1 rs2) s) rd (remSigned (readX s rs1) (readX s rs2)) :=
  writes_writeAndRetire s rd _

theorem writes_exec_remu : Writes s (exec (.remu rd rs1 rs2) s) rd (remUnsigned (readX s rs1) (readX s rs2)) :=
  writes_writeAndRetire s rd _

end Register

end Sys2Proof.Machine
end

section
/-! The statements of multiplication and division (46_m_extension.md). -/

namespace Sys2Proof.Machine

/-- Settles O51: each word by the round trip of its row, and each half by that of the exact product, which fits in 64
bits. -/
theorem multiplicationResults : Obligations.MultiplicationResults := fun s rd rs1 rs2 =>
  ⟨decode_encode (.mul rd rs1 rs2) rfl, decode_encode (.mulh rd rs1 rs2) rfl, decode_encode (.mulhu rd rs1 rs2) rfl,
    _, _, _, writes_exec_mul s rd rs1 rs2, toNat_mulLow _ _, toNat_mulLow_signed _ _, writes_exec_mulh s rd rs1 rs2,
    toInt_mulHighSS _ _, writes_exec_mulhu s rd rs1 rs2, toNat_mulHighUU _ _⟩

/-- Settles O52: the three exact products agree modulo 2^32, so the one low half completes each of their high halves,
and none is reduced in 64 bits. -/
theorem highAndLowHalvesMakeTheProduct : Obligations.HighAndLowHalvesMakeTheProduct := by
  refine ⟨fun s rd rs1 rs2 => ⟨_, writes_exec_mulhsu s rd rs1 rs2, toInt_mulHighSU _ _⟩, fun a b => ⟨?ss, ?su, ?uu⟩⟩
  case ss =>
    obtain ⟨hlow, hhigh⟩ := toInt_mul_toInt_bounds a b
    rw [mulHighSS, highHalf_append_mulLow a b (ofInt_toInt_mul_toInt a b)]
    exact BitVec.toInt_ofInt_eq_self (by decide) hlow hhigh
  case su =>
    obtain ⟨hlow, hhigh⟩ := toInt_mul_toNat_bounds a b
    rw [mulHighSU, highHalf_append_mulLow a b (ofInt_toInt_mul_toNat a b)]
    exact BitVec.toInt_ofInt_eq_self (by decide) hlow hhigh
  case uu =>
    rw [mulHighUU, highHalf_append_mulLow a b (ofInt_toNat_mul_toNat a b)]
    exact toNat_ofInt_toNat_mul_toNat a b

/-- Settles O53: the rows of Table 6.1 are the model's, and elsewhere the integers divide exactly. -/
theorem divisionAndRemainderResults : Obligations.DivisionAndRemainderResults := by
  intro s rd rs1 rs2
  refine ⟨_, _, _, _, writes_exec_div s rd rs1 rs2, writes_exec_divu s rd rs1 rs2, writes_exec_rem s rd rs1 rs2,
    writes_exec_remu s rd rs1 rs2, ?zero, ?overflow, ?signed, ?unsigned, division_signed_mod _ _,
    division_unsigned_mod _ _⟩
  case zero =>
    intro hb
    rw [hb]
    exact ⟨divSigned_zero _, divUnsigned_zero _, remSigned_zero _, remUnsigned_zero _⟩
  case overflow =>
    intro ha hb
    rw [ha, hb]
    exact ⟨divSigned_overflow, remSigned_overflow⟩
  case signed =>
    exact fun hb hfits => ⟨toInt_division_signed _ hb hfits, natAbs_toInt_remSigned_lt _ hb,
      toInt_divSigned _ hb hfits, toInt_remSigned_nonneg _, toInt_remSigned_nonpos _⟩
  case unsigned => exact fun hb => ⟨toNat_division_unsigned _ hb, toNat_remUnsigned_lt _ hb⟩

end Sys2Proof.Machine
end

section
/-! SUPPORT. An instruction of a running hart that raises an exception: which one, its recorded value, and that the
record is all that changes (60_exceptions.md R501, R510). -/

namespace Sys2Proof.Machine

/-- A trap that an instruction of a running hart leaves is the taking of its own exception. -/
theorem Ends.takes_of_trap {i : Instr} {s t : State} {r : TrapRecord} (h : Ends i s t) (hrun : s.trap = none)
    (ht : t.trap = some r) :
    mayRaise i r.exc = true ∧ ValueFits i s r.exc r.value ∧ r.pc = s.pc ∧ t = takeException s r.exc r.value := by
  obtain ⟨e, v, hallowed, hfits, rfl⟩ | ⟨next, -, -, -, -, htrap, -⟩ := h.traps_or_retires
  · cases ht
    exact ⟨hallowed, hfits, rfl, rfl⟩
  · rw [htrap, hrun] at ht
    cases ht

/-- A step of a running hart that traps takes an exception at its pc and does nothing else. -/
theorem Steps.takes_of_trap {s u : State} {r : TrapRecord} (h : Steps s u) (hrun : s.trap = none)
    (hu : u.trap = some r) : r.pc = s.pc ∧ u = takeException s r.exc r.value := by
  cases h with
  | cannotFetch _ =>
    cases hu
    exact ⟨rfl, rfl⟩
  | noInstruction w e _ _ _ =>
    cases hu
    exact ⟨rfl, rfl⟩
  | executes w i u _ _ executed =>
    obtain ⟨-, -, hpc, ht⟩ := (exec_cases executed).takes_of_trap hrun hu
    exact ⟨hpc, ht⟩

/-- The value of a misaligned target is the target of the jump or branch. -/
theorem ValueFits.target {i : Instr} {s : State} {v : Option Word}
    (h : ValueFits i s .instructionAddressMisaligned v) :
    ∃ a, v = some a ∧ jumpTarget i s = some a ∧ ¬FourAligned a := by
  obtain ⟨hv, a, rfl, ha⟩ := h
  refine ⟨a, rfl, hv.symm, ?_⟩
  rw [fourAligned_iff]
  exact (targetMisaligned_iff a).1 ha

/-- The run ends at a trap that the environment has no answer to (R510). -/
theorem stepEnv_of_no_answer {s : State} {r : TrapRecord} {env : EnvService} (htrap : s.trap = some r)
    (henv : env r s = none) : stepEnv env s = .fault (.endOfRun r) := by
  simp only [stepEnv, htrap, henv]

/-- Stepping goes on from the state the environment answers with (R510, R512). -/
theorem stepEnv_of_answer {s reply : State} {r : TrapRecord} {env : EnvService} (htrap : s.trap = some r)
    (henv : env r s = some reply) : stepEnv env s = .next (resume reply) := by
  simp only [stepEnv, htrap, henv]

end Sys2Proof.Machine
end

section
/-! The statements of exceptions (60_exceptions.md): what a trap hands over, which exceptions an instruction raises, and
what follows a trap. -/

namespace Sys2Proof.Machine

/-- Settles O20: the trapping step takes an exception, and the counters that advance after it do not include instret. -/
theorem trapsArePrecise : Obligations.TrapsArePrecise := by
  intro s t r hrun hstep htrap
  obtain ⟨-, -, u, hu, rfl⟩ := step_cases hstep
  obtain ⟨hpc, rfl⟩ := hu.takes_of_trap hrun htrap
  refine ⟨hpc, fun _ => rfl, ⟨fun _ => rfl, rfl⟩, rfl, instret_betweenSteps_of_trap rfl, rfl,
    cycle_le_betweenSteps (takeException s _ _), time_le_betweenSteps (takeException s _ _), step_of_trap htrap,
    fun env => ?_⟩
  cases henv : env r (betweenSteps (takeException s r.exc r.value)) with
  | none => exact stepEnv_of_no_answer htrap henv
  | some reply => exact stepEnv_of_answer htrap henv

/-- Settles O22: the ways an instruction ends say which exceptions it may raise and with what value. -/
theorem eachInstructionRaisesOnlyItsOwnExceptions : Obligations.EachInstructionRaisesOnlyItsOwnExceptions := by
  rintro i s t ⟨exc, pc, value⟩ hrun hexec htrap
  obtain ⟨hallowed, hfits, -, -⟩ := (exec_cases hexec).takes_of_trap hrun htrap
  refine ⟨hallowed, ?illegal, ?environment, ?target, ?access, ?fetch⟩
  case illegal =>
    rintro rfl
    exact hfits
  case environment =>
    rintro (rfl | rfl)
    · exact hfits
    · exact hfits
  case target =>
    rintro rfl
    exact hfits.target
  case access =>
    rintro (rfl | rfl | rfl | rfl)
    · exact hfits
    · exact hfits
    · exact hfits
    · exact hfits
  case fetch =>
    rintro rfl
    exact hfits

/-- Settles O16. -/
theorem aPendingTrapIsTheEnvironmentsToAnswer : Obligations.APendingTrapIsTheEnvironmentsToAnswer := by
  intro s r htrap
  refine ⟨step_of_trap htrap, fun env => ⟨stepEnv_of_no_answer htrap, fun reply henv => ?_⟩⟩
  exact ⟨resume reply, stepEnv_of_answer htrap henv, resume_trap reply, readX_resume reply,
    ⟨byteAt_resume reply, resume_stale reply⟩, resume_pc reply, resume_instret reply⟩

end Sys2Proof.Machine
end

section
/-! SUPPORT. Words of listed-only rows: their instructions trap with the word, apart from the three RV64I shifts with
inst[25] = 0 (30_encoding.md R120, 47_rv64i_listed.md R364 to R366). -/

namespace Sys2Proof

/-! ### The two instructions a word of an RV64I shift row is the encoding of -/

theorem funct7Of_eq_append (w : Word) : funct7Of w = funct6Of w ++ w.extractLsb' 25 1 :=
  (BitVec.extractLsb'_append_extractLsb'_eq_extractLsb' (x := w) (start₁ := 25) (len₁ := 1) (len₂ := 6) rfl).symm

theorem shamt6Of_getLsbD_five_eq (w : Word) : (shamt6Of w).getLsbD 5 = w.getLsbD 25 := by
  simp [shamt6Of]

section Shift6

variable {w p : Word} (h : w &&& 0xFC00707F#32 = p)

include h

/-- The mask of the row fixes inst[31:26], funct3 and the opcode (47_rv64i_listed.md R364). -/
theorem shift6_fields : funct6Of w = funct6Of p ∧ funct3Of w = funct3Of p ∧ opcodeOf w = opcodeOf p := by
  rw [← h, and_funct6_funct3, Laws.funct6Of_encShift6, Laws.funct3Of_encShift6, Laws.opcodeOf_encShift6]
  exact ⟨rfl, rfl, rfl⟩

/-- Whatever inst[25] is, the word is one of the RV64I row's format. -/
theorem encShift6_of_and :
    encShift6 (funct6Of p) (shamt6Of w) (rs1Of w) (funct3Of p) (rdOf w) (opcodeOf p) = w := by
  obtain ⟨h6, h3, hop⟩ := shift6_fields h
  exact encShift6_of_fields h6 h3 hop

/-- With inst[25] = 0 the word is one of the RV32I shift row. -/
theorem encR_of_and_shift6 (h25 : w.getLsbD 25 = false) :
    encR (funct6Of p ++ 0#1) (rs2Of w) (rs1Of w) (funct3Of p) (rdOf w) (opcodeOf p) = w := by
  obtain ⟨h6, h3, hop⟩ := shift6_fields h
  have hbit : w.extractLsb' 25 1 = 0#1 := by
    apply BitVec.eq_of_getLsbD_eq
    intro i hi
    obtain rfl : i = 0 := by omega
    simpa using h25
  exact encR_of_fields (by rw [funct7Of_eq_append, h6, hbit]) h3 hop

end Shift6

end Sys2Proof

namespace Sys2Proof.Machine

/-- A word runs as the well-formed instruction it is the encoding of. -/
theorem decode_and_runWord_of_encode {w : Word} {i : Instr} (hwf : i.wf = true) (h : encode i = w) (s : State) :
    decode w = .ok i ∧ runWord w s = exec i s := by
  subst h
  have hd := decode_encode i hwf
  exact ⟨hd, runWord_of_decode_ok hd s⟩

/-- A listed-only instruction traps with its word (R120). -/
theorem traps_exec_of_isListed {i : Instr} (hl : isListed i = true) (hwf : i.wf = true) (s : State) :
    Traps s (exec i s) .illegalInstruction (some (encode i)) := by
  rw [exec_of_isListed hl hwf]
  exact traps_takeException s _ _

theorem traps_runWord_of_encode {w : Word} {i : Instr} (hl : isListed i = true) (hwf : i.wf = true)
    (h : encode i = w) (s : State) : Traps s (runWord w s) .illegalInstruction (some w) := by
  obtain ⟨-, hrun⟩ := decode_and_runWord_of_encode hwf h s
  rw [hrun, ← h]
  exact traps_exec_of_isListed hl hwf s

end Sys2Proof.Machine
end

section
/-! The statements of the listed-only instructions (47_rv64i_listed.md, 46_m_extension.md R341 to R345, 48_a_listed.md,
49_fd_listed.md). -/

namespace Sys2Proof.Machine

/-- Settles O9: the word is the encoding of the RV32I shift or, with shamt[5] = 1, of the RV64I one. -/
theorem rv64ShiftWordsAreShiftsOrTrap : Obligations.Rv64ShiftWordsAreShiftsOrTrap := by
  intro w s
  have h25 := shamt6Of_getLsbD_five_eq w
  refine ⟨fun h => ⟨fun h0 => ?slli, fun h1 => ?slliRv64⟩, fun h => ⟨fun h0 => ?srli, fun h1 => ?srliRv64⟩,
    fun h => ⟨fun h0 => ?srai, fun h1 => ?sraiRv64⟩⟩
  case slli =>
    exact ⟨_, _, _, decode_and_runWord_of_encode (i := .slli (rdOf w) (rs1Of w) (rs2Of w)) rfl
      (encR_of_and_shift6 h h0 :) s⟩
  case slliRv64 =>
    exact traps_runWord_of_encode (i := .slliRv64 (rdOf w) (rs1Of w) (shamt6Of w)) rfl (h25.trans h1)
      (encShift6_of_and h :) s
  case srli =>
    exact ⟨_, _, _, decode_and_runWord_of_encode (i := .srli (rdOf w) (rs1Of w) (rs2Of w)) rfl
      (encR_of_and_shift6 h h0 :) s⟩
  case srliRv64 =>
    exact traps_runWord_of_encode (i := .srliRv64 (rdOf w) (rs1Of w) (shamt6Of w)) rfl (h25.trans h1)
      (encShift6_of_and h :) s
  case srai =>
    exact ⟨_, _, _, decode_and_runWord_of_encode (i := .srai (rdOf w) (rs1Of w) (rs2Of w)) rfl
      (encR_of_and_shift6 h h0 :) s⟩
  case sraiRv64 =>
    exact traps_runWord_of_encode (i := .sraiRv64 (rdOf w) (rs1Of w) (shamt6Of w)) rfl (h25.trans h1)
      (encShift6_of_and h :) s

/-- Settles O54: every one of them is listed-only, and only the three shifts have a condition to be well formed. -/
theorem rv64WordsTrap : Obligations.Rv64WordsTrap := by
  intro s
  refine ⟨?lwu, ?ld, ?sd, ?slli, ?srli, ?srai, ?others⟩
  case slli | srli | srai =>
    intro _ _ _ hwf
    refine traps_exec_of_isListed rfl ?_ s
    exact hwf
  case others =>
    and_intros
    all_goals intros; exact traps_exec_of_isListed rfl rfl s
  all_goals intros; exact traps_exec_of_isListed rfl rfl s

/-- Settles O55: every one of them is listed-only and well formed whatever its operands. -/
theorem atomicWordsTrap : Obligations.AtomicWordsTrap := by
  intro s
  and_intros
  all_goals intros; exact traps_exec_of_isListed rfl rfl s

/-- Settles O56: every one of them is listed-only and well formed whatever its operands. -/
theorem floatingPointWordsTrap : Obligations.FloatingPointWordsTrap := by
  intro s
  and_intros
  all_goals intros; exact traps_exec_of_isListed rfl rfl s

end Sys2Proof.Machine
end

section
/-! SUPPORT. Placing a word where the hart fetches next (70_reset_and_hazards.md R553, log 17): the bytes it puts in
memory are those of a store, and it takes their addresses out of `stale`. -/

namespace Sys2Proof.Machine

/-! ### Placing bytes -/

/-- Placing bytes touches memory and `stale` and no other field. -/
theorem placeBytes_eq (s : State) (a : Word) (bs : List Byte) :
    placeBytes s a bs = { s with mem := (placeBytes s a bs).mem, stale := (placeBytes s a bs).stale } := by
  induction bs generalizing s a with
  | nil => rfl
  | cons b rest ih => exact ih _ _

/-- The bytes placed are the bytes a store would put there. -/
theorem placeBytes_mem_of_mem_eq {s t : State} (h : s.mem = t.mem) (a : Word) (bs : List Byte) :
    (placeBytes s a bs).mem = (storeBytes t a bs).mem := by
  induction bs generalizing s t a with
  | nil => exact h
  | cons b rest ih => exact ih (congrArg (Memory.write · a.toNat b) h) (a + 1#32)

theorem byteAt_placeBytes (s : State) (a : Word) (bs : List Byte) (x : Word) :
    byteAt (placeBytes s a bs) x = byteAt (storeBytes s a bs) x :=
  byteAt_congr (placeBytes_mem_of_mem_eq rfl a bs) x

/-- The addresses placed at leave `stale`: a fetch sees what was placed there. -/
theorem mem_stale_placeBytes (s : State) (a : Word) (bs : List Byte) (x : Nat) :
    x ∈ (placeBytes s a bs).stale ↔ x ∈ s.stale ∧ ∀ i < bs.length, x ≠ (a + BitVec.ofNat 32 i).toNat := by
  induction bs generalizing s a with
  | nil => simp [placeBytes]
  | cons b rest ih =>
    have hnext (i : Nat) : a + 1#32 + BitVec.ofNat 32 i = a + BitVec.ofNat 32 (i + 1) := by
      rw [Nat.add_comm i, ← add_ofNat_add]
    simp only [placeBytes, ih, mem_staleErase, List.length_cons, Nat.forall_lt_succ_left, hnext,
      BitVec.add_zero]
    tauto

/-! ### Permitting the fetch -/

/-- Permitting a fetch touches the parameters and no other field. -/
theorem permitFetch_eq (s : State) (a : Word) : permitFetch s a = { s with cfg := (permitFetch s a).cfg } := by
  unfold permitFetch
  split <;> rfl

/-- The four bytes from an aligned address on do not wrap, so one region holds them. -/
theorem legalFor_permitFetch {a : Word} (s : State) (ha : FourAligned a) : LegalFor (permitFetch s a) .fetch a 4 := by
  unfold permitFetch
  split
  next hlegal => exact (legalRange_iff ..).1 hlegal
  next =>
    intro k hk
    have hsum : (a + BitVec.ofNat 32 k).toNat = a.toNat + k := by
      have h4 : a.toNat % 4 = 0 := ha
      have hlt := a.isLt
      rw [BitVec.toNat_add, BitVec.toNat_ofNat]
      omega
    simp [legalByte, regionPermits, hsum, hk]

/-! ### Placing an instruction word -/

/-- Where the placed word stands: the pc with its low two bits cleared. -/
theorem fourAligned_clearLow (a : Word) : FourAligned (a &&& 0xFFFFFFFC#32) := by
  rw [fourAligned_iff, BitVec.extractLsb'_and]
  exact BitVec.and_zero

section Placed

variable (s : State) (w : Word)

@[simp] theorem placeFetchWord_x : (placeFetchWord s w).x = s.x := by
  rw [placeFetchWord, permitFetch_eq, placeBytes_eq]
@[simp] theorem placeFetchWord_pc : (placeFetchWord s w).pc = s.pc &&& 0xFFFFFFFC#32 := by
  rw [placeFetchWord, permitFetch_eq, placeBytes_eq]
@[simp] theorem placeFetchWord_cycle : (placeFetchWord s w).cycle = s.cycle := by
  rw [placeFetchWord, permitFetch_eq, placeBytes_eq]
@[simp] theorem placeFetchWord_time : (placeFetchWord s w).time = s.time := by
  rw [placeFetchWord, permitFetch_eq, placeBytes_eq]
@[simp] theorem placeFetchWord_instret : (placeFetchWord s w).instret = s.instret := by
  rw [placeFetchWord, permitFetch_eq, placeBytes_eq]
@[simp] theorem placeFetchWord_trap : (placeFetchWord s w).trap = none := by
  rw [placeFetchWord, permitFetch_eq, placeBytes_eq]

/-- The memory after placing a word is that after storing its four bytes. -/
theorem byteAt_placeFetchWord (x : Word) :
    byteAt (placeFetchWord s w) x = byteAt (storeBytes s (s.pc &&& 0xFFFFFFFC#32) (storedBytes w 4)) x := by
  rw [placeFetchWord, permitFetch_eq]
  exact byteAt_congr (placeBytes_mem_of_mem_eq rfl _ _) x

theorem byteAt_placeFetchWord_outside {x : Word}
    (h : ∀ k, k < 4 → x ≠ (placeFetchWord s w).pc + BitVec.ofNat 32 k) :
    byteAt (placeFetchWord s w) x = byteAt s x := by
  rw [placeFetchWord_pc] at h
  rw [byteAt_placeFetchWord]
  exact byteAt_storeBytes_outside s _ (storedBytes w 4) x h

theorem mem32_placeFetchWord : mem32 (placeFetchWord s w) (placeFetchWord s w).pc = w := by
  refine HoldsWord.mem32_eq fun i hi => ?_
  rw [byteAt_placeFetchWord, placeFetchWord_pc]
  exact holdsWord_retire_storeBytes s _ w i hi

/-- The word placed is legal to fetch and fresh, so the next fetch gives it. -/
theorem fetch_placeFetchWord : fetch (placeFetchWord s w) = .word w := by
  have hlegal : LegalFor (placeFetchWord s w) .fetch (placeFetchWord s w).pc 4 := by
    rw [placeFetchWord_pc]
    exact legalFor_permitFetch _ (fourAligned_clearLow s.pc)
  have hfresh (k : Nat) (hk : k < 4) :
      ((placeFetchWord s w).pc + BitVec.ofNat 32 k).toNat ∉ (placeFetchWord s w).stale := by
    rw [placeFetchWord_pc, placeFetchWord, permitFetch_eq]
    exact fun hmem => ((mem_stale_placeBytes ..).1 hmem).2 k hk rfl
  rw [fetch_eq_word hlegal hfresh, mem32_placeFetchWord]

end Placed

/-- `withFetchWord` of a 32-bit word places that word. -/
theorem withFetchWord_eq (s : State) (w : Nat) : s.withFetchWord 32 w = placeFetchWord s (BitVec.ofNat 32 w) :=
  congrArg (placeFetchWord s) (BitVec.eq_of_toNat_eq (by simp))

end Sys2Proof.Machine
end

section
/-! The statement of placing code from outside (70_reset_and_hazards.md). -/

namespace Sys2Proof.Machine

/-- Settles O15: the state placed runs, its pc is aligned and its fetch gives the word. -/
theorem placedWordIsWhatTheNextStepRuns : Obligations.PlacedWordIsWhatTheNextStepRuns := by
  intro s w
  rw [withFetchWord_eq]
  have haligned : FourAligned (placeFetchWord s (BitVec.ofNat 32 w)).pc := by
    rw [placeFetchWord_pc]
    exact fourAligned_clearLow s.pc
  exact ⟨step_of_fetch_word (placeFetchWord_trap s _) haligned (fetch_placeFetchWord s _),
    readX_congr (placeFetchWord_x s _), placeFetchWord_instret s _, placeFetchWord_cycle s _, placeFetchWord_time s _,
    fun _ => byteAt_placeFetchWord_outside s _⟩

end Sys2Proof.Machine
end
